-- ==== Sys2Proof/Word.lean ====
section
/-!
DEFINITION. The words of the SBCE (spec/30_encoding.md R95, spec/00_scope.md R10, R11, R26): plain bit vectors,
bit 0 least significant.
-/

namespace Sys2Proof

/-- A data byte: the data bus is 8 bits wide (R11). -/
abbrev Byte := BitVec 8

/-- A bus address: the address bus is 16 bits wide (R10). -/
abbrev Addr := BitVec 16

/-- The address a host presents, AW_IN = 32 bits (R12). -/
abbrev HostAddr := BitVec 32

/-- A command word on `CMD` (R96). -/
abbrev CmdWord := BitVec 48

/-- A response word on `RSP` (R104). -/
abbrev RspWord := BitVec 24

/-- A strategy-table entry word (R102). -/
abbrev EntryWord := BitVec 36

/-- A bit-map entry word (R107). -/
abbrev MapWord := BitVec 6

end Sys2Proof
end

