-- ==== Sys2Proof/Syntax.lean ====
section
/-!
DEFINITION. The syntax: strategy codes, outcome codes, the nine instructions of spec/opcode_table.json, and the assembly
statements of spec/30_encoding.md R112 and R113.
-/

namespace Sys2Proof

/-- A strategy code (STRAT, 2 bits, R101). Code 11 is reserved: a lookup returns it as stored (R128), an access that
selects it ends in NotImplemented (R207). -/
inductive Strat where
  | default
  | syncPhi0
  | syncPhi0Skip
  | reserved
deriving DecidableEq, Repr, Inhabited

/-- An outcome code (STATUS, 2 bits, R105, R226). Code 11 is never produced and is left out (I13). -/
inductive Status where
  | success
  | notImplemented
  | noClockDetected
deriving DecidableEq, Repr, Inhabited

/-- The nine rows of the opcode table. The operands of a command are the free fields of CMD (R96): the host address
ADDR_IN and WDATA, which only WR uses (R99). The operands of a strategy row are the free fields of the table entry
that holds the code (R102): START, LENGTH and the strategy of the OTHER direction. -/
inductive Instr where
  /-- RD, OP = 00 (R97, R212). -/
  | rd (addrIn : HostAddr) (wdata : Byte)
  /-- WR, OP = 01 (R97, R213). -/
  | wr (addrIn : HostAddr) (wdata : Byte)
  /-- LK, OP = 10 (R97, R129). -/
  | lk (addrIn : HostAddr) (wdata : Byte)
  /-- RS = 00: the generic read cycle (R139). -/
  | rsDefault (start length : Addr) (ws : Strat)
  /-- RS = 01: the synchronized read cycle (R166). -/
  | rsSyncPhi0 (start length : Addr) (ws : Strat)
  /-- RS = 10: the synchronized read cycle with the longer wait (R166, R168). -/
  | rsSyncPhi0Skip (start length : Addr) (ws : Strat)
  /-- WS = 00: the generic write cycle (R140). -/
  | wsDefault (start length : Addr) (rs : Strat)
  /-- WS = 01: the synchronized write cycle (R167). -/
  | wsSyncPhi0 (start length : Addr) (rs : Strat)
  /-- WS = 10: the synchronized write cycle with the longer wait (R167, R168). -/
  | wsSyncPhi0Skip (start length : Addr) (rs : Strat)
deriving DecidableEq, Repr

/-- Why a word stands for no instruction (R109, R110). -/
inductive Reserved where
  /-- The command word has a bit of CMD[7:2] set (R98). -/
  | reservedBits
  /-- The command word has OP = 11 (R97). -/
  | reservedOp
  /-- The selected strategy field of the entry is 11 (R101). -/
  | reservedStrategy
deriving DecidableEq, Repr

/-- The assembly syntax for command sequences and table contents (R112), with the pseudo-instructions of R113.
Operands are the numbers as written; `Asm.wellFormed` says which ones the assembler takes. -/
inductive Asm where
  | rd (addr : Nat)
  | wr (addr data : Nat)
  | lk (addr : Nat)
  | memoryRead (addr : Nat)
  | memoryWrite (addr data : Nat)
  | lookup (addr : Nat)
  | entry (start length : Nat) (rs ws : Strat)
  | sentinel
deriving DecidableEq, Repr

end Sys2Proof
end

