-- ==== Sys2Proof/Config.lean ====
section
/-!
DEFINITION. The configuration CFG0 to CFG14 (spec/10_state.md R51), one sample of the input pins (R30 to R32), and the
free values: opaque constants with no body, for what the spec calls a draw (spec/00_scope.md R28).
-/

namespace Sys2Proof

/-- `RANGE_ARITH` (R14): how the end of an entry's range is computed (R121). -/
inductive RangeArith where
  | exact17
  | wrap16
deriving DecidableEq, Repr, Inhabited

/-- A strategy-table entry as `TableRead` returns it (R102). -/
structure Entry where
  start : Addr
  length : Addr
  rs : Strat
  ws : Strat
deriving DecidableEq, Repr, Inhabited

/-- A bit-map entry (R107): where one logical data bit is read from, and with which polarity (`inv`: active-low). -/
structure MapEntry where
  port : BitVec 2
  bit : BitVec 3
  inv : Bool
deriving DecidableEq, Repr, Inhabited

/-- The static configuration, CFG0 to CFG14 in the order of R51. TABLE_DEPTH (R13) is the length of `table`. Durations
are numbers of ticks; their registers' width CNT_W is derived (R24). `pollWNone` is POLL_W when POLL_BUDGET = NONE,
which R24 lets be any width (log 7). -/
structure Config where
  syncSupported : Bool
  rangeArith : RangeArith
  numPorts : Nat
  table : List Entry
  bitmap : Vector MapEntry 8
  cPoll : Nat
  tFirst : Nat
  tRuler : Nat
  tWait : Nat
  tWaitSkip : Nat
  tHigh : Nat
  tSample : Nat
  tDispatch : Nat
  pollUnbounded : Bool
  pollBudget : Nat
  pollWNone : Nat
deriving DecidableEq, Repr, Inhabited

/-- One sample of the input pins, `in_t` (R27, R30 to R32). A pin of one bit is `true` at level 1. `ports` holds
PORT_IN[0..3]; only the first NUM_PORTS of them are ports (R15, log 19). -/
structure Input where
  rstN : Bool
  cmdValid : Bool
  cmd : CmdWord
  phi0 : Bool
  ports : Vector Byte 4
  genDone : Bool
  genRdata : Byte
  genPinAddr : Addr
  genPinDout : Byte
  genPinDir : Bool
  genPinRw : Bool
  genPinPhi2 : Bool
deriving DecidableEq, Repr, Inhabited

/-- FREE VALUE: the sample the environment presents at a tick past the end of the listed inputs (R9, R28; log 2). -/
opaque Config.envInput : Nat → Input

/-- FREE VALUE: the draw reset leaves in `addr_r` (R61, R250, D11; log 4), one for each tick. -/
opaque Config.addrDraw : Nat → Addr

/-- FREE VALUE: the draw reset leaves in `dout_r` (R61, R250, D11; log 4), one for each tick. -/
opaque Config.doutDraw : Nat → Byte

end Sys2Proof
end

