-- ==== Sys2Proof/WellFormed.lean ====
section
/-!
DEFINITION. Well-formedness: of a configuration (spec/10_state.md R51, R58, spec/30_encoding.md R108), of an assembly
statement (R112), and the configurations of THIS hardware. Every term of `Instr`, `Entry` and `MapEntry` is well-formed
by its type: all values of ADDR_IN, WDATA and of a table entry are legal (R99, R100, R102), and R58 (e) holds by type.
-/

namespace Sys2Proof

/-- R108 (a): every bit-map entry names a port below NUM_PORTS. -/
def Config.mapPortsOk (c : Config) : Bool :=
  c.bitmap.toList.all fun m => decide (m.port.toNat < c.numPorts)

/-- R108 (b): the eight pairs (PORT, BIT) are pairwise distinct. -/
def Config.mapInjective (c : Config) : Bool :=
  decide (c.bitmap.toList.Pairwise fun m n => (m.port, m.bit) ≠ (n.port, n.bit))

/-- R58 (b): NUM_PORTS is 3 or 4. -/
def Config.numPortsOk (c : Config) : Bool :=
  decide (c.numPorts = 3 ∨ c.numPorts = 4)

/-- R58 (c): every timing field meets its lower bound in R51 (CFG11, T_SAMPLE, is at least 0). -/
def Config.timingOk (c : Config) : Bool :=
  decide (1 ≤ c.cPoll) && decide (1 ≤ c.tFirst) && decide (1 ≤ c.tRuler) && decide (1 ≤ c.tWait) &&
    decide (1 ≤ c.tWaitSkip) && decide (1 ≤ c.tHigh) && decide (1 ≤ c.tDispatch)

/-- R58 (d): a finite poll budget is at least 1. -/
def Config.budgetOk (c : Config) : Bool :=
  c.pollUnbounded || decide (1 ≤ c.pollBudget)

/-- R13: TABLE_DEPTH is at least 1. -/
def Config.tableOk (c : Config) : Bool :=
  !c.table.isEmpty

/-- A well-formed configuration (R58). -/
def Config.wellFormed (c : Config) : Bool :=
  c.mapPortsOk && c.mapInjective && c.numPortsOk && c.timingOk && c.budgetOk && c.tableOk

/-- The configuration of an instance: R58 has a model take it as a subtype whose proof is the check. -/
abbrev WfConfig := { c : Config // c.wellFormed = true }

/-- What this hardware fixes among the parameters: EXACT17 (R14, R57), T_SAMPLE = 0 (R21), and, as a conforming SBCE,
a finite poll budget (R23, R56). -/
def Config.isThisHardware (c : Config) : Bool :=
  decide (c.rangeArith = .exact17) && decide (c.tSample = 0) && !c.pollUnbounded

/-- The configurations this hardware can be built with; all their other fields are OPEN (spec/00_scope.md, 5). -/
abbrev ThisConfig := { c : Config // c.wellFormed = true ∧ c.isThisHardware = true }

/-- A bit map of the reference's polarity (R107: every INV is 1) with all bits on port 0: the plainest well-formed map.
Only a witness that well-formed configurations exist. -/
def Config.plainBitmap : Vector MapEntry 8 :=
  #v[⟨0, 0, true⟩, ⟨0, 1, true⟩, ⟨0, 2, true⟩, ⟨0, 3, true⟩, ⟨0, 4, true⟩, ⟨0, 5, true⟩, ⟨0, 6, true⟩, ⟨0, 7, true⟩]

/-- The least configuration of this hardware: every timing field at its lower bound, a table of one sentinel. Only a
witness that such configurations exist; no state of the model holds it. -/
def Config.least : Config where
  syncSupported := true
  rangeArith := .exact17
  numPorts := 3
  table := [⟨0, 0, .default, .default⟩]
  bitmap := Config.plainBitmap
  cPoll := 1
  tFirst := 1
  tRuler := 1
  tWait := 1
  tWaitSkip := 1
  tHigh := 1
  tSample := 0
  tDispatch := 1
  pollUnbounded := false
  pollBudget := 1
  pollWNone := 1

theorem Config.least_wellFormed : Config.least.wellFormed = true := by decide

theorem Config.least_isThisHardware : Config.least.isThisHardware = true := by decide

/-- The witness that a configuration of this hardware exists. -/
def ThisConfig.least : ThisConfig :=
  ⟨Config.least, Config.least_wellFormed, Config.least_isThisHardware⟩

/-- FREE VALUE: the configured values of the one SBCE that `State.reset` stands for (R61: the reset value of the
configuration is the configured value; log 5). The argument only says that such configurations exist. -/
opaque Config.chosenOf [Inhabited ThisConfig] : ThisConfig

/-- The fields this hardware fixes, written over a configuration. -/
def Config.fixed (c : Config) : Config := { c with rangeArith := .exact17, tSample := 0, pollUnbounded := false }

/-- Writing them over a configuration of this hardware changes nothing. -/
theorem Config.fixed_eq {c : Config} (h : c.isThisHardware = true) : c.fixed = c := by
  simp only [Config.isThisHardware, Bool.and_eq_true, decide_eq_true_eq, Bool.not_eq_true'] at h
  obtain ⟨⟨hr, ht⟩, hu⟩ := h
  cases c
  simp_all [Config.fixed]

/-- The configured values (R61, R253): some well-formed configuration of this hardware; nothing more is known of it.
`fixed` only lets the fields that this hardware fixes be computed. -/
def Config.chosen : WfConfig :=
  let c := @Config.chosenOf ⟨ThisConfig.least⟩
  ⟨c.val.fixed, (Config.fixed_eq c.property.2).symm ▸ c.property.1⟩

/-- The same configuration with the synchronized cycle present and a table of one entry: what a build that serves every
access it matches by that entry is loaded with during reset (R253). -/
def WfConfig.serving (c : WfConfig) (e : Entry) : WfConfig :=
  ⟨{ c.val with table := [e], syncSupported := true }, by
    have h := c.property
    simp only [Config.wellFormed, Bool.and_eq_true] at h ⊢
    exact ⟨h.1, by rfl⟩⟩

/-- The operands the assembler takes (R112): `<addr>` below 2^32, `<data>` at most 255, START and LENGTH 16 bits
(R102). -/
def Asm.wellFormed : Asm → Bool
  | .rd a => decide (a < 2 ^ 32)
  | .wr a d => decide (a < 2 ^ 32) && decide (d < 2 ^ 8)
  | .lk a => decide (a < 2 ^ 32)
  | .memoryRead a => decide (a < 2 ^ 32)
  | .memoryWrite a d => decide (a < 2 ^ 32) && decide (d < 2 ^ 8)
  | .lookup a => decide (a < 2 ^ 32)
  | .entry s l _ _ => decide (s < 2 ^ 16) && decide (l < 2 ^ 16)
  | .sentinel => true

end Sys2Proof
end

