-- ==== Sys2Proof/Decode.lean ====
section
/-!
DEFINITION. The encodings (spec/30_encoding.md): the decoders of strategy codes, command words, table entries and bit-map
entries, total on all words and rejecting by name; after them the encoders of the same formats, the assembler of R112,
and the host's view of a row of spec/opcode_table.json (`decodeTableWord`).
-/

namespace Sys2Proof

/-! ## Decoders -/

/-- The strategy decoder, total on 2 bits (R101, R109). -/
def Strat.ofBits (b : BitVec 2) : Strat :=
  if b = 0b00#2 then .default
  else if b = 0b01#2 then .syncPhi0
  else if b = 0b10#2 then .syncPhi0Skip
  else .reserved

/-- `CMD[1:0]`, the field OP (R96). -/
def cmdOp (w : CmdWord) : BitVec 2 := w.extractLsb' 0 2

/-- `CMD[7:2]`, the field RSVD (R96, R98). -/
def cmdRsvd (w : CmdWord) : BitVec 6 := w.extractLsb' 2 6

/-- `CMD[15:8]`, the field WDATA (R96, R99). -/
def cmdWdata (w : CmdWord) : Byte := w.extractLsb' 8 8

/-- `CMD[47:16]`, the field ADDR_IN (R96, R100). -/
def cmdAddrIn (w : CmdWord) : HostAddr := w.extractLsb' 16 32

/-- The command decoder (R109), total on all 2^48 words. -/
def decodeCmd (w : CmdWord) : Except Reserved Instr :=
  if cmdRsvd w ≠ 0#6 then .error .reservedBits
  else if cmdOp w = 0b00#2 then .ok (.rd (cmdAddrIn w) (cmdWdata w))
  else if cmdOp w = 0b01#2 then .ok (.wr (cmdAddrIn w) (cmdWdata w))
  else if cmdOp w = 0b10#2 then .ok (.lk (cmdAddrIn w) (cmdWdata w))
  else .error .reservedOp

/-- The fields of an ENTRY word (R102). -/
def Entry.ofWord (w : EntryWord) : Entry where
  start := w.extractLsb' 0 16
  length := w.extractLsb' 16 16
  rs := Strat.ofBits (w.extractLsb' 32 2)
  ws := Strat.ofBits (w.extractLsb' 34 2)

/-- The fields of a MAP word (R107). -/
def MapEntry.ofWord (w : MapWord) : MapEntry where
  port := w.extractLsb' 0 2
  bit := w.extractLsb' 2 3
  inv := w.getLsbD 5

/-- The row that a read access (`write = false`, field RS) or a write access (field WS) selects from an entry
(R101, R131); code 11 has none (R207). -/
def Entry.instr (write : Bool) (e : Entry) : Except Reserved Instr :=
  match write, e.rs, e.ws with
  | false, .default, ws => .ok (.rsDefault e.start e.length ws)
  | false, .syncPhi0, ws => .ok (.rsSyncPhi0 e.start e.length ws)
  | false, .syncPhi0Skip, ws => .ok (.rsSyncPhi0Skip e.start e.length ws)
  | false, .reserved, _ => .error .reservedStrategy
  | true, rs, .default => .ok (.wsDefault e.start e.length rs)
  | true, rs, .syncPhi0 => .ok (.wsSyncPhi0 e.start e.length rs)
  | true, rs, .syncPhi0Skip => .ok (.wsSyncPhi0Skip e.start e.length rs)
  | true, _, .reserved => .error .reservedStrategy

/-- A word together with where it comes from, which is how a decoder tells a format (R95): the CMD pins, or the
strategy table on a read or on a write access. -/
inductive Encoded where
  | cmd (w : CmdWord)
  | readEntry (w : EntryWord)
  | writeEntry (w : EntryWord)
deriving DecidableEq, Repr

/-- The decoder of all nine rows: total, rejecting by name. -/
def decode : Encoded → Except Reserved Instr
  | .cmd w => decodeCmd w
  | .readEntry w => (Entry.ofWord w).instr false
  | .writeEntry w => (Entry.ofWord w).instr true

/-! ## Encoders -/

/-- The 2-bit code of a strategy (R101). -/
def Strat.toBits : Strat → BitVec 2
  | .default => 0b00#2
  | .syncPhi0 => 0b01#2
  | .syncPhi0Skip => 0b10#2
  | .reserved => 0b11#2

/-- The 2-bit code of an outcome (R105). -/
def Status.toBits : Status → BitVec 2
  | .success => 0b00#2
  | .notImplemented => 0b01#2
  | .noClockDetected => 0b10#2

/-- `CMD = {zext_32(a), d, 000000, o}` (R96). -/
def encodeCmd (op : BitVec 2) (addrIn : HostAddr) (wdata : Byte) : CmdWord :=
  addrIn ++ wdata ++ 0#6 ++ op

/-- The ENTRY word `{WS, RS, LENGTH, START}` (R102). -/
def Entry.toWord (e : Entry) : EntryWord :=
  e.ws.toBits ++ e.rs.toBits ++ e.length ++ e.start

/-- The MAP word `{INV, BIT, PORT}` (R107). -/
def MapEntry.toWord (m : MapEntry) : MapWord :=
  BitVec.ofBool m.inv ++ m.bit ++ m.port

/-- The word of an instruction and the place it is decoded from (R96, R102). -/
def encode : Instr → Encoded
  | .rd a d => .cmd (encodeCmd 0b00#2 a d)
  | .wr a d => .cmd (encodeCmd 0b01#2 a d)
  | .lk a d => .cmd (encodeCmd 0b10#2 a d)
  | .rsDefault s l ws => .readEntry (Entry.toWord ⟨s, l, .default, ws⟩)
  | .rsSyncPhi0 s l ws => .readEntry (Entry.toWord ⟨s, l, .syncPhi0, ws⟩)
  | .rsSyncPhi0Skip s l ws => .readEntry (Entry.toWord ⟨s, l, .syncPhi0Skip, ws⟩)
  | .wsDefault s l rs => .writeEntry (Entry.toWord ⟨s, l, rs, .default⟩)
  | .wsSyncPhi0 s l rs => .writeEntry (Entry.toWord ⟨s, l, rs, .syncPhi0⟩)
  | .wsSyncPhi0Skip s l rs => .writeEntry (Entry.toWord ⟨s, l, rs, .syncPhi0Skip⟩)

/-! ## The assembler (R112, R113) -/

/-- The expansion of the pseudo-instructions (R113) and of SENTINEL (R112); every other statement is its own. -/
def Asm.expand : Asm → Asm
  | .memoryRead a => .rd a
  | .memoryWrite a d => .wr a d
  | .lookup a => .lk a
  | .sentinel => .entry 0 0 .default .default
  | a => a

/-- What the assembler emits: a command word, or a table entry. -/
inductive AsmWord where
  | cmd (w : CmdWord)
  | entry (w : EntryWord)
deriving DecidableEq, Repr

/-- The word of an expanded statement. WDATA, which RD and LK ignore, is assembled as 0 (R112, R113). -/
def Asm.word : Asm → Option AsmWord
  | .rd a => some (.cmd (encodeCmd 0b00#2 (BitVec.ofNat 32 a) 0#8))
  | .wr a d => some (.cmd (encodeCmd 0b01#2 (BitVec.ofNat 32 a) (BitVec.ofNat 8 d)))
  | .lk a => some (.cmd (encodeCmd 0b10#2 (BitVec.ofNat 32 a) 0#8))
  | .entry s l rs ws => some (.entry (Entry.toWord ⟨BitVec.ofNat 16 s, BitVec.ofNat 16 l, rs, ws⟩))
  | _ => none

/-- The assembler: an ill-formed operand is an assembler error (R112). -/
def assemble (a : Asm) : Option AsmWord :=
  if a.wellFormed then a.expand.word else none

/-! ## The host's numbering of the opcode table -/

/-- Which half of an ENTRY word stands for the word's row. One word holds a read code and a write code, so it matches a
row RS_* and a row WS_*: the synchronized code decides, the read code before the write code, then the DEFAULT code in
the same order (log 11). -/
def Entry.tableHalf (e : Entry) : Bool :=
  match e.rs, e.ws with
  | .syncPhi0, _ => false
  | .syncPhi0Skip, _ => false
  | _, .syncPhi0 => true
  | _, .syncPhi0Skip => true
  | .default, _ => false
  | .reserved, _ => true

/-- The word of a row of spec/opcode_table.json, with the place it is decoded from: rows of 33 to 40 bits are ENTRY words
(36 bits in whole bytes), the others CMD words (48 bits, of which the table may give fewer). -/
def tableWord (nbits w : Nat) : Option Encoded :=
  if 32 < nbits ∧ nbits ≤ 40 then
    if w < 2 ^ 36 then
      let e := BitVec.ofNat 36 w
      some (if (Entry.ofWord e).tableHalf then .writeEntry e else .readEntry e)
    else none
  else if nbits ≤ 48 ∧ w < 2 ^ 48 then some (.cmd (BitVec.ofNat 48 w))
  else none

/-- The instruction the decoder reads from a row's word; none where it refuses. -/
def decodeTableWord (nbits w : Nat) : Option Instr :=
  match tableWord nbits w with
  | some e =>
    match decode e with
    | .ok i => some i
    | .error _ => none
  | none => none

end Sys2Proof
end

