-- ==== Sys2Proof/Machine/State.lean ====
section
/-!
DEFINITION. The state of the SBCE: every register of spec/10_state.md R34 to R43, the configuration (R51), and three
fields of the model's own (the pending input samples, the tick index, the first-tick mark of a GEN span). Plain data.
-/

namespace Sys2Proof.Machine

/-- The FSM states (R34). Codes 11 to 15 are never reached and are left out, as R34 allows. -/
inductive FsmState where
  | idle
  | dispatch
  | gen
  | setup
  | clow
  | chigh
  | fine
  | wait
  | high
  | samp
  | fin
deriving DecidableEq, Repr, Inhabited

/-- Why a step can stop with a fault: nothing does. The engine has no trap mechanism and no event that stops it
(spec/60_exceptions.md R225); NotImplemented and NoClockDetected are outcomes in the response, after which the engine
goes on (R226). -/
inductive Fault where
deriving DecidableEq, Repr

/-- Why a step can be refused. -/
inductive Refusal where
  /-- Raised by `exec` alone, for an instruction that has no meaning yet. Safe. -/
  | notModelled (mnemonic : String)
  /-- Raised by `step`: the generic unit has GEN_DONE at 1 at a tick outside GEN, which breaks its duty (b) of
  spec/41_generic_cycle.md R137. The rule leaves the engine's behaviour open and has the model refuse such an
  environment (I16). Safe. -/
  | genDoneOutsideGen
  /-- Raised by `step`: the generic unit has GEN_DONE at 1 at the first tick of a GEN span, which breaks its duty (a) of
  R137; refused for the same reason. Safe. -/
  | genDoneAtFirstTick
  /-- Raised by a meaning: the instruction was asked to run at a tick that is not one of its ticks (a bus cycle in IDLE,
  a generic cycle in CLOW, ...). R35 gives it no step there; `step` never asks it. Safe (log 13). -/
  | notAtThisTick
deriving DecidableEq, Repr

/-- The state `S_t` (R27). -/
structure State where
  /-- R34, 4 bits. -/
  st : FsmState
  /-- R36: the latched OP field. -/
  op : BitVec 2
  /-- R36: 1 when the latched command's reserved bits are not all zero. -/
  rsvdNz : Bool
  /-- R36: the latched 16-bit address. -/
  addr : Addr
  /-- R36: the latched write data. -/
  wdata : Byte
  /-- R37: the strategy chosen for the current cycle. -/
  strat : Strat
  /-- R38: the tick counter, CNT_W bits (log 8). -/
  cnt : Nat
  /-- R39: the poll counter, POLL_W bits (logs 6, 7). -/
  polls : Nat
  /-- R40: the reassembly register. -/
  scratch : Byte
  /-- R41: the status FIN reports. -/
  finStatus : Status
  /-- R42: the register behind ADDR_OUT. -/
  addrR : Addr
  /-- R42: the register behind DATA_OUT. -/
  doutR : Byte
  /-- R42: the register behind DATA_DIR, `true` = 1 = output (R31). -/
  dirR : Bool
  /-- R42: the register behind RW, `true` = 1 = read (R31). -/
  rwR : Bool
  /-- R42: the register behind PHI2_OUT. -/
  phi2R : Bool
  /-- R43, R215: the register behind RSP_VALID. -/
  rspValid : Bool
  /-- R43: STATUS of the last response. -/
  rspStatus : Status
  /-- R43: RDV of the last response. -/
  rspRdv : Bool
  /-- R43: RDATA of the last response. -/
  rspRdata : Byte
  /-- R43: RS of the last response. -/
  rspRs : Strat
  /-- R43: WS of the last response. -/
  rspWs : Strat
  /-- R51: the configuration CFG0 to CFG14, with the proof that it is well-formed (R58, log 5). -/
  cfg : WfConfig
  /-- The MODEL's own: the input samples still to come, the next tick's first (R9, log 2). -/
  inputs : List Input
  /-- The MODEL's own: the index of the tick (R27), which only the free values read (log 2). -/
  tick : Nat
  /-- The MODEL's own: this is the first tick of a GEN span; read only to see duty (a) of R137 (log 9). -/
  genFirst : Bool
deriving DecidableEq, Repr

/-- The state after reset of an instance with configuration `c` (R61, R250): the two draws are free values (log 4), and
nothing is known of the inputs to come (log 2). -/
def State.resetOf (c : WfConfig) : State where
  st := .idle
  op := 0b00#2
  rsvdNz := false
  addr := 0x0000#16
  wdata := 0x00#8
  strat := .default
  cnt := 0
  polls := 0
  scratch := 0x00#8
  finStatus := .success
  addrR := Config.addrDraw 0
  doutR := Config.doutDraw 0
  dirR := false
  rwR := true
  phi2R := false
  rspValid := false
  rspStatus := .success
  rspRdv := false
  rspRdata := 0x00#8
  rspRs := .default
  rspWs := .default
  cfg := c
  inputs := []
  tick := 0
  genFirst := false

/-- The machine right after reset (R61), for the configured values of this hardware. -/
def State.reset : State := State.resetOf Config.chosen

end Sys2Proof.Machine
end

