-- ==== Sys2Proof/Machine/Operands.lean ====
section
/-!
DEFINITION. What the steps read: the input sample of a tick, the 16-bit address (spec/40_strategy_table.md), the strategy
lookup, the port snapshot and its reassembly (spec/42_sync_cycle.md R161), and the wait-out length.
-/

namespace Sys2Proof.Machine

/-- The configuration without its proof. -/
abbrev State.conf (s : State) : Config := s.cfg.val

/-- The input sample `k` ticks ahead: the listed one, and past the list a free value (log 2). -/
def State.inputAt (s : State) (k : Nat) : Input := s.inputs.getD k (Config.envInput (s.tick + k))

/-- The input sample of this tick, `in_t` (R27). -/
def State.input (s : State) : Input := s.inputAt 0

/-- The next tick: its sample is the next one of the stream (R27). -/
def State.advance (s : State) : State := { s with inputs := s.inputs.tail, tick := s.tick + 1 }

/-- `op[0]`: 0 for a read, 1 for a write (R97). -/
def State.isWrite (s : State) : Bool := s.op.getLsbD 0

/-- `a16 = ADDR_IN[15:0]` (R100, R120): the only operand assembly of a command. -/
def a16 (addrIn : HostAddr) : Addr := addrIn.extractLsb' 0 16

/-! ## The strategy table (R121 to R128) -/

/-- The end of an entry's range (R121): the exact 17-bit sum, or the sum modulo 2^16. -/
def rangeEnd (r : RangeArith) (e : Entry) : Nat :=
  match r with
  | .exact17 => e.start.toNat + e.length.toNat
  | .wrap16 => (e.start.toNat + e.length.toNat) % 2 ^ 16

/-- `match(e, a16)` (R122). -/
def covers (r : RangeArith) (e : Entry) (a : Addr) : Bool :=
  decide (e.length ≠ 0#16) && decide (e.start.toNat ≤ a.toNat) && decide (a.toNat < rangeEnd r e)

/-- The entry that serves an address: the first match before the first sentinel, in declared order; none where the
sentinel or the end of the table comes first (R123, R126). -/
def servingIn (r : RangeArith) (a : Addr) : List Entry → Option Entry
  | [] => none
  | e :: rest =>
    if e.length = 0#16 then none
    else if covers r e a then some e
    else servingIn r a rest

/-- The SENTINEL entry of R112. -/
def sentinelEntry : Entry := ⟨0#16, 0#16, .default, .default⟩

/-- The entry that serves an address in a configuration, the sentinel where none does. -/
def servingEntry (c : Config) (a : Addr) : Entry := (servingIn c.rangeArith a c.table).getD sentinelEntry

/-- `lookup(a16)`: the pair `(rs, ws)`, `(DEFAULT, DEFAULT)` where no entry serves the address (R123, R125). -/
def lookup (c : Config) (a : Addr) : Strat × Strat := ((servingEntry c a).rs, (servingEntry c a).ws)

/-! ## The port snapshot (R79, R161) -/

/-- `PortSample()`: the NUM_PORTS bytes of PORT_IN at one tick (R28, R79). -/
def portSample (c : Config) (i : Input) : List Byte := i.ports.toList.take c.numPorts

/-- The source bit `P[m.PORT][m.BIT]` of a snapshot. A port beyond the snapshot reads 0; a well-formed map names none
(R108; log 19). -/
def portBit (p : List Byte) (m : MapEntry) : Bool := (p.getD m.port.toNat 0#8).getLsbD m.bit.toNat

/-- One logical bit: set when INV = 1 and the source bit is 0, or INV = 0 and the source bit is 1 (R161). -/
def logicalBit (p : List Byte) (m : MapEntry) : Bool :=
  (m.inv && !portBit p m) || (!m.inv && portBit p m)

/-- `Reassemble(P)` (R161): data bit `i` comes from the source bit that `CFG_BITMAP[i]` names. -/
def reassemble (c : Config) (p : List Byte) : Byte :=
  BitVec.ofFnLE fun i : Fin 8 => logicalBit p c.bitmap[i]

/-! ## The wait-out length (R156, R158) -/

/-- `W`: T_WAIT_SKIP for SYNC_PHI0_SKIP, else T_WAIT, as the FINE lock chooses it (R156). -/
def waitOf (c : Config) (k : Strat) : Nat :=
  if k = .syncPhi0Skip then c.tWaitSkip else c.tWait

end Sys2Proof.Machine
end

