-- ==== Sys2Proof/Machine/Flags.lean ====
section
/-!
DEFINITION. The response: the SBCE has no condition codes, only the per-command status of the response registers
(spec/10_state.md R50, spec/43_dispatch.md R214, R215, spec/30_encoding.md R104 to R106).
-/

namespace Sys2Proof.Machine

/-- `rsp_valid <- 0`, at every step that does not call `Respond` (R215). -/
def State.clearValid (s : State) : State := { s with rspValid := false }

/-- `Respond(status, rd, rs, ws)` (R214), the one procedure that writes the response registers. -/
def State.respond (status : Status) (rd : Option Byte) (rs ws : Strat) (s : State) : State :=
  { s with
    rspValid := true
    rspStatus := status
    rspRdv := rd.isSome
    rspRdata := rd.getD 0x00#8
    rspRs := rs
    rspWs := ws }

/-- `Respond(...)` together with `st <- IDLE`: it is called only in the step that does both (R214). -/
def State.finish (status : Status) (rd : Option Byte) (rs ws : Strat) (s : State) : State :=
  { s.respond status rd rs ws with st := .idle }

/-- The word on `RSP` (R104): `{0000, rsp_ws, rsp_rs, rsp_rdata, 00000, rsp_rdv, rsp_status}`. -/
def State.rspWord (s : State) : RspWord :=
  0#4 ++ s.rspWs.toBits ++ s.rspRs.toBits ++ s.rspRdata ++ 0#5 ++ BitVec.ofBool s.rspRdv ++ s.rspStatus.toBits

/-- The read data of a response: none unless RDV = 1 (R106, I10). -/
def State.readData (s : State) : Option Byte := if s.rspRdv then some s.rspRdata else none

/-- `ok` of the source's calls: STATUS = 00 (R218). -/
def State.respOk (s : State) : Bool := decide (s.rspStatus = .success)

end Sys2Proof.Machine
end

