-- ==== Sys2Proof/Machine/Ops.lean ====
section
/-!
DEFINITION. The named operations over the registers: the step of each FSM state (spec/10_state.md R35), written from the
pseudocode of its rule, and the two ways a command ends in an error (spec/60_exceptions.md R229, R230). Where the spec's
pseudocode reads `op[0]` or `strat`, the operation takes the value as an argument, which the instruction supplies.
-/

namespace Sys2Proof.Machine

/-! ## Errors: the SBCE's exceptions (R225, R229, R230) -/

/-- `raise NotImplemented()` (R229): respond and return to IDLE; no bus register changes. -/
def State.raiseNotImplemented (s : State) : State := s.finish .notImplemented none .default .default

/-- `raise NoClockDetected()` (R230): FIN reports it. -/
def State.raiseNoClockDetected (s : State) : State := { s with finStatus := .noClockDetected, st := .fin }

/-! ## Counting (R38, R39, R153) -/

/-- `cnt <- cnt - 1`, done only where `cnt > 0` (R38). -/
def State.count (s : State) : State := { s with cnt := s.cnt - 1 }

/-- A state's step that waits for the counter: count while `cnt > 0`, else act. -/
def State.whenDone (act : State → State) (s : State) : State := if 0 < s.cnt then s.count else act s

/-- What a poll returns (R153). -/
inductive PollResult where
  | lock
  | abort
  | again
deriving DecidableEq, Repr

/-- `Poll(hit)` of R153 at poll number `n`: a hit locks, even on the budget's last poll or past it; a miss at or past a
finite budget aborts. -/
def pollResult (c : Config) (n : Nat) (hit : Bool) : PollResult :=
  if hit then .lock
  else if c.pollUnbounded = false ∧ c.pollBudget ≤ n then .abort
  else .again

/-- The bits of the least register that holds `n`. -/
def bitsFor (n : Nat) : Nat := n.log2 + 1

/-- POLL_W: the least width that holds POLL_BUDGET, or any width when it is NONE (R24; log 7). -/
def pollW (c : Config) : Nat := if c.pollUnbounded then c.pollWNone else bitsFor c.pollBudget

/-- `polls <- polls + 1` (R153) in POLL_W bits (R24, R39). With a finite budget the counter does not wrap (R24): a count that
POLL_W bits cannot hold, which lies past the budget, leaves it at its largest value (log 6). With POLL_BUDGET = NONE it
counts modulo 2^POLL_W (R24, log 7). -/
def State.countPoll (s : State) : State :=
  { s with
    polls := if s.conf.pollUnbounded then (s.polls + 1) % 2 ^ pollW s.conf else min (s.polls + 1) (2 ^ pollW s.conf - 1) }

/-- `Poll(hit)` and its three branches (R153 to R156): what a lock does, what another try does, and the abort of R230. -/
def State.poll (hit : Bool) (onLock onAgain : State → State) (s : State) : State :=
  match pollResult s.conf (s.polls + 1) hit with
  | .lock => onLock s.countPoll
  | .abort => s.countPoll.raiseNoClockDetected
  | .again => onAgain s.countPoll

/-! ## IDLE and DISPATCH (R200, R201) -/

/-- IDLE accepts a command and latches its fields (R200). -/
def State.latch (op : BitVec 2) (rsvdNz : Bool) (a : Addr) (d : Byte) (s : State) : State :=
  { s with op := op, rsvdNz := rsvdNz, addr := a, wdata := d, cnt := s.conf.tDispatch - 1, st := .dispatch }

/-- `strat <- s` and the routing of an RD or WR by its selected strategy (R201, R204 to R207). -/
def State.route (k : Strat) (s : State) : State :=
  let s := { s with strat := k }
  match k with
  | .default => { s with st := .gen, genFirst := true }
  | .syncPhi0 | .syncPhi0Skip =>
    if s.conf.syncSupported then { s with st := .setup } else s.raiseNotImplemented
  | .reserved => s.raiseNotImplemented

/-- The strategy an access selects for the latched address: `rs` on a read, `ws` on a write (R203). -/
def State.selected (write : Bool) (s : State) : Strat :=
  if write then (lookup s.conf s.addr).2 else (lookup s.conf s.addr).1

/-- The DISPATCH step of an RD or WR (R201). -/
def State.dispatchAccess (write : Bool) (s : State) : State :=
  s.whenDone fun s => s.route (s.selected write)

/-- The DISPATCH step of LK (R129, R201). -/
def State.dispatchLookup (s : State) : State :=
  s.whenDone fun s => s.finish .success none (lookup s.conf s.addr).1 (lookup s.conf s.addr).2

/-- The DISPATCH step of a reserved command word (R201, R208). -/
def State.dispatchReserved (s : State) : State := s.whenDone State.raiseNotImplemented

/-! ## GEN (R136) -/

/-- The end state of a generic cycle on the bus registers (R136): RW back to read, the address, the direction of the
cycle and, on a write, the data; `phi2_r` keeps its value. -/
def State.genBus (write : Bool) (s : State) : State :=
  { s with rwR := true, addrR := s.addr, dirR := write, doutR := if write then s.wdata else s.doutR }

/-- The GEN step (R136). -/
def State.genTick (write : Bool) (s : State) : State :=
  let s' := { s with genFirst := false }
  if s.input.genDone then
    (s'.genBus write).finish .success (if write then none else some s.input.genRdata) .default .default
  else s'

/-! ## The synchronized cycle (R151 to R162) -/

/-- The SETUP step (R151, R152). -/
def State.setupTick (write : Bool) (s : State) : State :=
  { s with
    addrR := s.addr
    polls := 0
    cnt := 0
    finStatus := .success
    rwR := !write
    dirR := write
    doutR := if write then s.wdata else s.doutR
    st := .clow }

/-- The CLOW step (R154). -/
def State.clowTick (s : State) : State :=
  s.whenDone fun s =>
    s.poll (!s.input.phi0)
      (fun s => { s with st := .chigh, cnt := s.conf.cPoll - 1 })
      (fun s => { s with cnt := s.conf.cPoll - 1 })

/-- The CHIGH step (R155). -/
def State.chighTick (s : State) : State :=
  s.whenDone fun s =>
    s.poll s.input.phi0
      (fun s => { s with st := .fine, cnt := s.conf.tFirst - 1 })
      (fun s => { s with cnt := s.conf.cPoll - 1 })

/-- The FINE step (R156) of the strategy `k`, which chooses the wait-out length. -/
def State.fineTick (k : Strat) (s : State) : State :=
  s.whenDone fun s =>
    s.poll (!s.input.phi0)
      (fun s => { s with st := .wait, cnt := waitOf s.conf k - 1 })
      (fun s => { s with cnt := s.conf.tRuler - 1 })

/-- The WAIT step (R158). -/
def State.waitTick (s : State) : State :=
  s.whenDone fun s => { s with phi2R := true, st := .high, cnt := s.conf.tHigh - 1 }

/-- The HIGH step (R159). -/
def State.highTick (s : State) : State :=
  s.whenDone fun s => { s with phi2R := false, st := .samp, cnt := s.conf.tSample }

/-- The SAMP step (R160): the snapshot and its reassembly on a read, nothing on a write. -/
def State.sampTick (write : Bool) (s : State) : State :=
  s.whenDone fun s =>
    { s with scratch := if write then s.scratch else reassemble s.conf (portSample s.conf s.input), st := .fin }

/-- The FIN step (R162). -/
def State.finTick (write : Bool) (s : State) : State :=
  let s' := { s with rwR := true }
  if s.finStatus = .success then
    s'.finish .success (if write then none else some s.scratch) .default .default
  else s'.finish .noClockDetected none .default .default

/-- The step of a synchronized cycle of direction `write` and strategy `k` in its states SETUP to FIN (R150); none in a
state that is not of the cycle. -/
def State.syncTick (write : Bool) (k : Strat) (s : State) : Option State :=
  match s.st with
  | .setup => some (s.setupTick write)
  | .clow => some s.clowTick
  | .chigh => some s.chighTick
  | .fine => some (s.fineTick k)
  | .wait => some s.waitTick
  | .high => some s.highTick
  | .samp => some (s.sampTick write)
  | .fin => some (s.finTick write)
  | .idle | .dispatch | .gen => none

/-- A tick of a synchronized cycle as an outcome: refused in a state that is not of the cycle (log 13). -/
def orNotAtThisTick (o : Option State) : Host.Outcome State Fault Refusal :=
  match o with
  | some s => .next s
  | none => .refused .notAtThisTick

/-! ## Reset (R250) -/

/-- The RESET step (R250): it replaces every state's step at a tick with RST_N = 0. The draws are free values of the tick
(log 4); the configuration does not change (R251). -/
def State.resetTick (s : State) : State :=
  { s with
    st := .idle
    op := 0b00#2
    rsvdNz := false
    addr := 0x0000#16
    wdata := 0x00#8
    strat := .default
    cnt := 0
    polls := 0
    scratch := 0x00#8
    finStatus := .success
    rwR := true
    phi2R := false
    dirR := false
    addrR := Config.addrDraw (s.tick + 1)
    doutR := Config.doutDraw (s.tick + 1)
    rspValid := false
    rspStatus := .success
    rspRdv := false
    rspRdata := 0x00#8
    rspRs := .default
    rspWs := .default
    genFirst := false }

end Sys2Proof.Machine
end

