-- ==== Sys2Proof/Machine/Commands.lean ====
section
/-!
DEFINITION. The commands RD, WR and LK (spec/43_dispatch.md R200 to R203, R212, R213, spec/40_strategy_table.md R129).
A meaning is ONE tick of its instruction (log 1): in IDLE the acceptance, in DISPATCH the delay and the routing, and for
RD and WR the tick of the bus cycle they were routed to. Every tick that does not respond clears `rsp_valid` (R215).
-/

namespace Sys2Proof.Machine

/-- A tick of an RD (`write = false`) or a WR whose fields are already taken from the word. -/
def accessTick (op : BitVec 2) (write : Bool) (a : Addr) (d : Byte) (s : State) : Host.Outcome State Fault Refusal :=
  match s.st with
  | .idle => .next (s.clearValid.latch op false a d)
  | .dispatch => .next (s.clearValid.dispatchAccess write)
  | .gen => .next (s.clearValid.genTick write)
  | _ => orNotAtThisTick (s.clearValid.syncTick write s.strat)

/-- RD (R212): a memory read through the strategy the table gives. WDATA is latched and ignored (R99). -/
def execRd (addrIn : HostAddr) (wdata : Byte) (s : State) : Host.Outcome State Fault Refusal :=
  accessTick 0b00#2 false (a16 addrIn) wdata s

/-- WR (R213): a memory write through the strategy the table gives. -/
def execWr (addrIn : HostAddr) (wdata : Byte) (s : State) : Host.Outcome State Fault Refusal :=
  accessTick 0b01#2 true (a16 addrIn) wdata s

/-- LK (R129): report the strategies that serve an address; no bus cycle. WDATA is latched and ignored (R99). -/
def execLk (addrIn : HostAddr) (wdata : Byte) (s : State) : Host.Outcome State Fault Refusal :=
  match s.st with
  | .idle => .next (s.clearValid.latch 0b10#2 false (a16 addrIn) wdata)
  | .dispatch => .next s.clearValid.dispatchLookup
  | _ => .refused .notAtThisTick

end Sys2Proof.Machine
end

