-- ==== Sys2Proof/Machine/Generic.lean ====
section
/-!
DEFINITION. The generic cycles RS_DEFAULT and WS_DEFAULT (spec/41_generic_cycle.md R135 to R140, spec/43_dispatch.md R204).
A meaning is one tick of the cycle (log 1): in DISPATCH the delay and the entry into GEN, in GEN the step of R136. The
entry's START, LENGTH and other strategy select the cycle and have no part in it (R131).
-/

namespace Sys2Proof.Machine

/-- A tick of the generic cycle of direction `write`. -/
def genericCycle (write : Bool) (s : State) : Host.Outcome State Fault Refusal :=
  match s.st with
  | .dispatch => .next (s.clearValid.whenDone (State.route .default))
  | .gen => .next (s.clearValid.genTick write)
  | _ => .refused .notAtThisTick

/-- RS_DEFAULT: GEN_RD, the generic read (R139). -/
def execRsDefault (_start _length : Addr) (_ws : Strat) (s : State) : Host.Outcome State Fault Refusal :=
  genericCycle false s

/-- WS_DEFAULT: GEN_WR, the generic write (R140). -/
def execWsDefault (_start _length : Addr) (_rs : Strat) (s : State) : Host.Outcome State Fault Refusal :=
  genericCycle true s

end Sys2Proof.Machine
end

