-- ==== Sys2Proof/Machine/Sync.lean ====
section
/-!
DEFINITION. The synchronized cycles RS_SYNC_PHI0, RS_SYNC_PHI0_SKIP, WS_SYNC_PHI0 and WS_SYNC_PHI0_SKIP
(spec/42_sync_cycle.md R150 to R168, spec/43_dispatch.md R205, R206). A meaning is one tick of the cycle (log 1): in
DISPATCH the delay and the entry into SETUP, or NotImplemented where the build has no synchronized cycle; from SETUP to
FIN the step of the state. The two strategies differ only in the wait-out length (R168).
-/

namespace Sys2Proof.Machine

/-- A tick of the synchronized cycle of direction `write` and strategy `k`. -/
def syncCycle (write : Bool) (k : Strat) (s : State) : Host.Outcome State Fault Refusal :=
  match s.st with
  | .dispatch => .next (s.clearValid.whenDone (State.route k))
  | _ => orNotAtThisTick (s.clearValid.syncTick write k)

/-- RS_SYNC_PHI0: SYNC_RD with wait T_WAIT (R166). -/
def execRsSyncPhi0 (_start _length : Addr) (_ws : Strat) (s : State) : Host.Outcome State Fault Refusal :=
  syncCycle false .syncPhi0 s

/-- RS_SYNC_PHI0_SKIP: SYNC_RD with wait T_WAIT_SKIP (R166, R168). -/
def execRsSyncPhi0Skip (_start _length : Addr) (_ws : Strat) (s : State) : Host.Outcome State Fault Refusal :=
  syncCycle false .syncPhi0Skip s

/-- WS_SYNC_PHI0: SYNC_WR with wait T_WAIT (R167). -/
def execWsSyncPhi0 (_start _length : Addr) (_rs : Strat) (s : State) : Host.Outcome State Fault Refusal :=
  syncCycle true .syncPhi0 s

/-- WS_SYNC_PHI0_SKIP: SYNC_WR with wait T_WAIT_SKIP (R167, R168). -/
def execWsSyncPhi0Skip (_start _length : Addr) (_rs : Strat) (s : State) : Host.Outcome State Fault Refusal :=
  syncCycle true .syncPhi0Skip s

end Sys2Proof.Machine
end

