-- ==== Sys2Proof/Machine/Dispatch.lean ====
section
/-!
DEFINITION. One arm per row of spec/opcode_table.json.
-/

namespace Sys2Proof.Machine

def exec (i : Instr) (s : State) : Host.Outcome State Fault Refusal :=
  match i with
  | .rd addrIn wdata => Sys2Proof.Machine.execRd addrIn wdata s
  | .wr addrIn wdata => Sys2Proof.Machine.execWr addrIn wdata s
  | .lk addrIn wdata => Sys2Proof.Machine.execLk addrIn wdata s
  | .rsDefault start length ws => Sys2Proof.Machine.execRsDefault start length ws s
  | .rsSyncPhi0 start length ws => Sys2Proof.Machine.execRsSyncPhi0 start length ws s
  | .rsSyncPhi0Skip start length ws => Sys2Proof.Machine.execRsSyncPhi0Skip start length ws s
  | .wsDefault start length rs => Sys2Proof.Machine.execWsDefault start length rs s
  | .wsSyncPhi0 start length rs => Sys2Proof.Machine.execWsSyncPhi0 start length rs s
  | .wsSyncPhi0Skip start length rs => Sys2Proof.Machine.execWsSyncPhi0Skip start length rs s

end Sys2Proof.Machine
end

