-- ==== Sys2Proof/Machine/Outputs.lean ====
section
/-!
DEFINITION. The output pins (spec/10_state.md R30 to R32, R45 to R48): functions of the state alone, except CMD_READY,
which shows RST_N of the tick (R45), and the bus pins in GEN, which show the generic unit's drive (R47).
-/

namespace Sys2Proof.Machine

/-- The code of an FSM state (R34). -/
def FsmState.code : FsmState → BitVec 4
  | .idle => 0#4
  | .dispatch => 1#4
  | .gen => 2#4
  | .setup => 3#4
  | .clow => 4#4
  | .chigh => 5#4
  | .fine => 6#4
  | .wait => 7#4
  | .high => 8#4
  | .samp => 9#4
  | .fin => 10#4

/-- `CMD_READY` (R45). -/
def State.cmdReady (s : State) : Bool := decide (s.st = .idle) && s.input.rstN

/-- A command is accepted at this tick (R45). -/
def State.accepts (s : State) : Bool := s.input.cmdValid && s.cmdReady

/-- The states of steps 2 to 6 (R46). -/
def FsmState.inhibits : FsmState → Bool
  | .clow | .chigh | .fine | .wait | .high | .samp => true
  | .idle | .dispatch | .gen | .setup | .fin => false

/-- `IRQ_INHIBIT` (R46). -/
def State.irqInhibit (s : State) : Bool := s.st.inhibits

/-- `CAP_SYNC` (R48). -/
def State.capSync (s : State) : Bool := s.conf.syncSupported

/-- `GEN_REQ` (R32). -/
def State.genReq (s : State) : Bool := decide (s.st = .gen)

/-- `GEN_OP` (R32): `op[0]`. -/
def State.genOp (s : State) : Bool := s.isWrite

/-- `GEN_ADDR` (R32). -/
def State.genAddr (s : State) : Addr := s.addr

/-- `GEN_WDATA` (R32). -/
def State.genWdata (s : State) : Byte := s.wdata

/-- The bus pins ADDR_OUT, DATA_OUT, DATA_DIR, RW and PHI2_OUT (R31). -/
structure BusPins where
  addrOut : Addr
  dataOut : Byte
  dataDir : Bool
  rw : Bool
  phi2Out : Bool
deriving DecidableEq, Repr

/-- What the SBCE's own registers drive (R42). -/
def State.busRegs (s : State) : BusPins := ⟨s.addrR, s.doutR, s.dirR, s.rwR, s.phi2R⟩

/-- What the generic unit drives (R32). -/
def Input.genDrive (i : Input) : BusPins := ⟨i.genPinAddr, i.genPinDout, i.genPinDir, i.genPinRw, i.genPinPhi2⟩

/-- The pin side of the dispatch mux (R47): the generic unit's drive in GEN, else the registers. -/
def State.busPins (s : State) : BusPins := if s.st = .gen then Input.genDrive s.input else s.busRegs

end Sys2Proof.Machine
end

