-- ==== Sys2Proof/Machine/Fetch.lean ====
section
/-!
DEFINITION. What the engine runs at a tick: in IDLE the command offered on CMD, in DISPATCH the latched command, in a bus
cycle the strategy row that the latched direction and `strat` name (log 1); and the checks of the generic unit's duties
(spec/41_generic_cycle.md R137).
-/

namespace Sys2Proof.Machine

/-- What a tick runs. -/
inductive Fetched where
  /-- IDLE with no command offered. -/
  | nothing
  /-- A reserved command word (R208), offered in IDLE or latched in DISPATCH. -/
  | reserved
  /-- A tick of an instruction. -/
  | instr (i : Instr)
deriving DecidableEq, Repr

/-- The command word that IDLE latched, rebuilt from the latch (R36): ADDR_IN[31:16], which no rule reads, is 0, and any
nonzero RSVD stands for all. -/
def State.latchedWord (s : State) : CmdWord :=
  (0#16 ++ s.addr) ++ s.wdata ++ (if s.rsvdNz then 1#6 else 0#6) ++ s.op

/-- The decoder's answer as what a tick runs. -/
def Fetched.ofWord (w : CmdWord) : Fetched :=
  match decodeCmd w with
  | .ok i => .instr i
  | .error _ => .reserved

/-- The generic row of an access, with the operands of the entry that serves its address (log 12). -/
def genericInstr (write : Bool) (e : Entry) : Instr :=
  if write then .wsDefault e.start e.length e.rs else .rsDefault e.start e.length e.ws

/-- The synchronized row of an access; as in FINE (R156), a strategy other than SYNC_PHI0_SKIP counts as SYNC_PHI0
(log 12). -/
def syncInstr (write : Bool) (k : Strat) (e : Entry) : Instr :=
  match write, decide (k = .syncPhi0Skip) with
  | false, false => .rsSyncPhi0 e.start e.length e.ws
  | false, true => .rsSyncPhi0Skip e.start e.length e.ws
  | true, false => .wsSyncPhi0 e.start e.length e.rs
  | true, true => .wsSyncPhi0Skip e.start e.length e.rs

/-- What this tick runs. -/
def State.fetch (s : State) : Fetched :=
  match s.st with
  | .idle => if s.input.cmdValid then Fetched.ofWord s.input.cmd else .nothing
  | .dispatch => Fetched.ofWord s.latchedWord
  | .gen => .instr (genericInstr s.isWrite (servingEntry s.conf s.addr))
  | .setup | .clow | .chigh | .fine | .wait | .high | .samp | .fin =>
    .instr (syncInstr s.isWrite s.strat (servingEntry s.conf s.addr))

/-- The tick of a reserved command word (R200, R201, R208): accepted in IDLE like any other, ended in DISPATCH. -/
def State.reservedTick (s : State) : State :=
  if s.st = .idle then
    s.clearValid.latch (cmdOp s.input.cmd) (decide (cmdRsvd s.input.cmd ≠ 0#6)) (a16 (cmdAddrIn s.input.cmd))
      (cmdWdata s.input.cmd)
  else s.clearValid.dispatchReserved

/-- The duty of R137 that the generic unit breaks at this tick, if any. -/
def State.dutyBroken (s : State) : Option Refusal :=
  if s.input.genDone then
    if s.st ≠ .gen then some .genDoneOutsideGen
    else if s.genFirst then some .genDoneAtFirstTick
    else none
  else none

/-- The next tick's state of an outcome: the input stream moves on (R27). -/
def advanceOutcome (o : Host.Outcome State Fault Refusal) : Host.Outcome State Fault Refusal :=
  match o with
  | .next s => .next s.advance
  | .fault f => .fault f
  | .refused r => .refused r

/-- A bus cycle served by the entry `e` about to take its first tick: the entry is loaded as the table of the instance
(R253), the access of direction `write` to the entry's first address is latched, and DISPATCH has routed it by the
entry's code (R201). A reserved code stays in DISPATCH, where it ends in NotImplemented (R207; log 21). -/
def State.withCycle (write : Bool) (e : Entry) (s : State) : State :=
  let k := if write then e.ws else e.rs
  { s with
    st := match k with
      | .default => .gen
      | .syncPhi0 | .syncPhi0Skip => .setup
      | .reserved => .dispatch
    op := if write then 0b01#2 else 0b00#2
    rsvdNz := false
    addr := e.start
    strat := k
    cnt := 0
    genFirst := decide (k = .default)
    cfg := s.cfg.serving e
    inputs := { s.input with rstN := true, genDone := false } :: s.inputs.tail }

/-- A command word offered on CMD at an IDLE tick (R200; log 3). -/
def State.withCommand (w : CmdWord) (s : State) : State :=
  { s with
    st := .idle
    inputs := { s.input with rstN := true, genDone := false, cmdValid := true, cmd := w } :: s.inputs.tail }

end Sys2Proof.Machine
end

