-- ==== Sys2Proof/Machine/Step.lean ====
section
/-!
DEFINITION. One tick of the machine (spec/00_scope.md R27): reset first (R233, R250), then the environment's duties
(R137), then one tick of what the engine runs.
-/

namespace Sys2Proof.Machine

/-- `S_{t+1} = Step(S_t, in_t)` (R27). -/
def step (s : State) : Host.Outcome State Fault Refusal :=
  if s.input.rstN then
    match s.dutyBroken with
    | some r => .refused r
    | none =>
      match s.fetch with
      | .nothing => .next s.clearValid.advance
      | .reserved => .next s.reservedTick.advance
      | .instr i => advanceOutcome (exec i s)
  else .next s.resetTick.advance

/-- The state whose very next step runs the row's word: a command is offered on CMD in IDLE; a strategy row's entry is
loaded as the table and its cycle takes its first tick (logs 3, 11, 21). -/
def State.withFetchWord (s : State) (nbits w : Nat) : State :=
  match tableWord nbits w with
  | some (.cmd c) => s.withCommand c
  | some (.readEntry e) => s.withCycle false (Entry.ofWord e)
  | some (.writeEntry e) => s.withCycle true (Entry.ofWord e)
  | none => s

end Sys2Proof.Machine
end

