-- ==== Sys2Proof/Machine/Contract.lean ====
section
/-!
DEFINITION. The vocabulary of the timing contract (spec/42_sync_cycle.md R171 to R175, spec/00_scope.md R25). It is about
the environment: no step of the engine reads it. Ticks are counted from a state `s`: tick `k` is `k` ticks ahead of `s`.
-/

namespace Sys2Proof.Machine

/-- The nominal phi0 of R25 seen from a state: period, high time, and the phase of the state's own tick. -/
structure Phi0 where
  period : Nat
  high : Nat
  phase : Nat
deriving DecidableEq, Repr

/-- `1 <= H_PHI0 < T_PHI0` (R171), and the phase lies in a period. -/
def Phi0.ok (p : Phi0) : Prop := 1 ≤ p.high ∧ p.high < p.period ∧ p.phase < p.period

/-- `L_PHI0 = T_PHI0 - H_PHI0` (R25). -/
def Phi0.low (p : Phi0) : Nat := p.period - p.high

/-- The phase of tick `k` (R171). -/
def Phi0.phaseAt (p : Phi0) (k : Nat) : Nat := (p.phase + k) % p.period

/-- phi0 is nominal at every tick up to and including tick `n` (R171). -/
def State.nominal (s : State) (p : Phi0) (n : Nat) : Prop :=
  ∀ k ≤ n, (s.inputAt k).phi0 = decide (p.phaseAt k < p.high)

/-- Condition (i) of R172, the "shortened first pass". -/
def firstPassShort (c : Config) (p : Phi0) : Prop :=
  ∀ j < min c.cPoll p.high, (j + c.tFirst) % p.period < p.high

/-- Condition (ii) of R172 with `delta` the ruler quantum: the ruler is slightly longer than one period. -/
def rulerLonger (c : Config) (p : Phi0) (delta : Nat) : Prop :=
  c.tRuler = p.period + delta ∧ 1 ≤ delta ∧ delta ≤ p.low

/-- The first grid rising edge after a tick of phase `ph` lies this many ticks later (R173). -/
def Phi0.toNextRise (p : Phi0) (ph : Nat) : Nat := p.period - ph

end Sys2Proof.Machine
end

