-- ==== Sys2Proof/Machine/Fsm.lean ====
section
/-!
DEFINITION. The same machine seen as the spec's own FSM (spec/10_state.md R35): one step per state, reading `op` and
`strat` where the pseudocode does. The instruction-wise step is to agree with it (an obligation says so).
-/

namespace Sys2Proof.Machine

/-- The state's step, by R35, at a tick with RST_N = 1. -/
def State.fsmTick (s : State) : State :=
  let s := s.clearValid
  match s.st with
  | .idle =>
    if s.input.cmdValid then
      s.latch (cmdOp s.input.cmd) (decide (cmdRsvd s.input.cmd ≠ 0#6)) (a16 (cmdAddrIn s.input.cmd))
        (cmdWdata s.input.cmd)
    else s
  | .dispatch =>
    s.whenDone fun s =>
      if s.rsvdNz = true ∨ s.op = 0b11#2 then s.raiseNotImplemented
      else if s.op = 0b10#2 then
        s.finish .success none (lookup s.conf s.addr).1 (lookup s.conf s.addr).2
      else s.route (s.selected s.isWrite)
  | .gen => s.genTick s.isWrite
  | .setup => s.setupTick s.isWrite
  | .clow => s.clowTick
  | .chigh => s.chighTick
  | .fine => s.fineTick s.strat
  | .wait => s.waitTick
  | .high => s.highTick
  | .samp => s.sampTick s.isWrite
  | .fin => s.finTick s.isWrite

/-- `Step(S_t, in_t)` (R27), in an environment that keeps the duties of R137. -/
def State.fsmStep (s : State) : State :=
  (if s.input.rstN then s.fsmTick else s.resetTick).advance

end Sys2Proof.Machine
end

