-- ==== Sys2Proof/Safety.lean ====
section
/-!
DEFINITION. The terms in which claims about runs are made: runs of ticks, the widths of the counters (spec/00_scope.md
R24), the invariant of the engine, and the duties of the environment that the step does not check.
-/

namespace Sys2Proof.Machine

/-! ## Runs -/

/-- `t` is the state `n` ticks after `s`: no tick in between is refused. -/
def Runs (n : Nat) (s t : State) : Prop := Host.Core.run Sys2Proof.core n s = .next t

/-- Over the next `n` ticks there is no reset, and the generic unit stays silent. -/
def State.quiet (s : State) (n : Nat) : Prop :=
  ∀ k < n, (s.inputAt k).rstN = true ∧ (s.inputAt k).genDone = false

/-- Two states that differ at most in the inputs to come, the tick index and the model's first-tick mark hold the same
registers of the spec (R36 to R43) and the same configuration. -/
def State.sameEngine (s t : State) : Prop :=
  { t with inputs := s.inputs, tick := s.tick, genFirst := s.genFirst } = s

/-- The same state with another sample of the input pins at this tick. -/
def State.withInput (i : Input) (s : State) : State := { s with inputs := i :: s.inputs.tail }

/-- Direction and strategy of a synchronized row of the opcode table (R166, R167). -/
def syncRow : Instr → Option (Bool × Strat)
  | .rsSyncPhi0 _ _ _ => some (false, .syncPhi0)
  | .rsSyncPhi0Skip _ _ _ => some (false, .syncPhi0Skip)
  | .wsSyncPhi0 _ _ _ => some (true, .syncPhi0)
  | .wsSyncPhi0Skip _ _ _ => some (true, .syncPhi0Skip)
  | .rd _ _ | .wr _ _ | .lk _ _ | .rsDefault _ _ _ | .wsDefault _ _ _ => none

/-- Direction of a generic row of the opcode table (R139, R140). -/
def genericRow : Instr → Option Bool
  | .rsDefault _ _ _ => some false
  | .wsDefault _ _ _ => some true
  | .rd _ _ | .wr _ _ | .lk _ _ | .rsSyncPhi0 _ _ _ | .rsSyncPhi0Skip _ _ _ | .wsSyncPhi0 _ _ _
  | .wsSyncPhi0Skip _ _ _ => none

/-- Direction of an access command (R97). -/
def accessRow : Instr → Option Bool
  | .rd _ _ => some false
  | .wr _ _ => some true
  | .lk _ _ | .rsDefault _ _ _ | .wsDefault _ _ _ | .rsSyncPhi0 _ _ _ | .rsSyncPhi0Skip _ _ _ | .wsSyncPhi0 _ _ _
  | .wsSyncPhi0Skip _ _ _ => none

/-- The response `Respond(status, rd, rs, ws)` leaves in the response registers (R214), RSP_VALID among them. -/
def State.hasResponse (status : Status) (rd : Option Byte) (rs ws : Strat) (s : State) : Prop :=
  s.rspValid = true ∧ s.rspStatus = status ∧ s.readData = rd ∧ (rd = none → s.rspRdata = 0x00#8) ∧
    s.rspRs = rs ∧ s.rspWs = ws

/-- Within the next `n` ticks poll number POLL_BUDGET hits in CLOW or CHIGH: by R153 the hit wins and the cycle polls on,
which R23, R164, R268 and R269 do not count with (log 6). -/
def State.coarseHitOnLastPoll (s : State) (n : Nat) : Prop :=
  ∃ k u v, k < n ∧ Runs k s u ∧ Runs (k + 1) s v ∧ u.cnt = 0 ∧ u.polls + 1 = u.conf.pollBudget ∧
    ((u.st = .clow ∧ v.st = .chigh) ∨ (u.st = .chigh ∧ v.st = .fine))

/-- `ceil(a / b)` (R172, R269). -/
def ceilDiv (a b : Nat) : Nat := (a + b - 1) / b

/-! ## Counter widths (R24) -/

/-- `max(T_DISPATCH, C_POLL, T_FIRST, T_RULER, T_WAIT, T_WAIT_SKIP, T_HIGH, T_SAMPLE + 1) - 1` (R24). -/
def cntMax (c : Config) : Nat :=
  max c.tDispatch (max c.cPoll (max c.tFirst (max c.tRuler
    (max c.tWait (max c.tWaitSkip (max c.tHigh (c.tSample + 1))))))) - 1

/-- CNT_W (R24). -/
def cntW (c : Config) : Nat := bitsFor (cntMax c)

/-! ## The invariant -/

/-- The states in which a synchronized cycle has set up the bus: CLOW to FIN. -/
def FsmState.onBus : FsmState → Bool
  | .clow | .chigh | .fine | .wait | .high | .samp | .fin => true
  | .idle | .dispatch | .gen | .setup => false

/-- The states of a routed bus cycle (R202). -/
def FsmState.inCycle : FsmState → Bool
  | .idle | .dispatch => false
  | .gen | .setup | .clow | .chigh | .fine | .wait | .high | .samp | .fin => true

/-- The largest value `cnt` takes in a state (R38 and the loads of R151 to R160, R200). -/
def FsmState.cntBound (c : Config) (k : Strat) : FsmState → Nat
  | .dispatch => c.tDispatch - 1
  | .clow | .chigh => c.cPoll - 1
  | .fine => max c.tFirst c.tRuler - 1
  | .wait => waitOf c k - 1
  | .high => c.tHigh - 1
  | .samp => c.tSample
  | .idle | .gen | .setup | .fin => 0

/-- The largest value `polls` takes in a state, with a finite budget: POLL_BUDGET, and one more for each poll that may
follow a hit on the budget's last poll (R153; log 6). -/
def FsmState.pollBound (c : Config) : FsmState → Nat
  | .clow => c.pollBudget - 1
  | .chigh => c.pollBudget
  | .fine => c.pollBudget + 1
  | .idle | .dispatch | .gen | .setup | .wait | .high | .samp | .fin => c.pollBudget + 2

/-- What every tick of the engine keeps. -/
structure Inv (s : State) : Prop where
  /-- R215: RSP_VALID only at an IDLE tick. -/
  validIdle : s.rspValid = true → s.st = .idle
  /-- R106: RDV only with Success. -/
  rdvSuccess : s.rspRdv = true → s.rspStatus = .success
  /-- R106: RDATA is 0x00 when RDV = 0. -/
  rdataZero : s.rspRdv = false → s.rspRdata = 0x00#8
  /-- R104, R217: strategies are reported by LK alone, which succeeds and carries no data. -/
  stratsOnlyLk : (s.rspRs ≠ .default ∨ s.rspWs ≠ .default) → s.rspStatus = .success ∧ s.rspRdv = false
  /-- R62, R169: PHI2 is high exactly in HIGH. -/
  phi2High : s.phi2R = true ↔ s.st = .high
  /-- R62, R151, R152, R162: RW is 0 only on the bus of a synchronized write. -/
  rwBus : s.rwR = !(s.st.onBus && s.isWrite)
  /-- R151, R152, R165, R91: the cycle's address, direction and write data stay on the bus registers. -/
  busHeld : s.st.onBus = true → s.addrR = s.addr ∧ s.dirR = s.isWrite ∧ (s.isWrite = true → s.doutR = s.wdata)
  /-- R202: only an RD or a WR reaches a cycle, with the strategy its address selects. -/
  routed : s.st.inCycle = true →
    s.rsvdNz = false ∧ (s.op = 0b00#2 ∨ s.op = 0b01#2) ∧ s.strat = s.selected s.isWrite
  /-- R204: GEN serves DEFAULT. -/
  genDefault : s.st = .gen → s.strat = .default
  /-- R150: a synchronized cycle runs only for SYNC_PHI0 and SYNC_PHI0_SKIP in a build that has it. -/
  syncOnly : s.st.inCycle = true → s.st ≠ .gen →
    (s.strat = .syncPhi0 ∨ s.strat = .syncPhi0Skip) ∧ s.conf.syncSupported = true
  /-- R41: `fin_status` is Success or NoClockDetected, and Success until an abort. -/
  finStatusOk : s.finStatus ≠ .notImplemented ∧ (s.st.inhibits = true → s.finStatus = .success)
  /-- R38: the counter stays within what its state loads. -/
  cntOk : s.cnt ≤ s.st.cntBound s.conf s.strat
  /-- R24: the poll counter fits POLL_W. -/
  pollsFit : s.polls < 2 ^ pollW s.conf
  /-- R153: no state polls on after a miss at or past a finite budget. -/
  pollsOk : s.conf.pollUnbounded = false → s.polls ≤ s.st.pollBound s.conf
  /-- The model's mark stands only in GEN. -/
  genFirstGen : s.genFirst = true → s.st = .gen

/-- The quiescent state of R62, on the pins. -/
def State.quiescent (s : State) : Prop :=
  s.busPins.rw = true ∧ s.busPins.phi2Out = false ∧ s.irqInhibit = false

/-! ## Duties of the environment that the step does not check -/

/-- The host's duty of R216: a command offered and not accepted is offered again, unchanged. -/
def State.hostHolds (s : State) : Prop :=
  s.input.cmdValid = true → s.accepts = false →
    (s.inputAt 1).cmdValid = true ∧ (s.inputAt 1).cmd = s.input.cmd

/-- The generic unit's duty of R138: at the GEN_DONE tick its drive equals the end state of R136. -/
def State.unitEndDrive (s : State) : Prop :=
  s.st = .gen → s.input.genDone = true →
    s.input.genPinRw = true ∧ s.input.genPinAddr = s.addr ∧ s.input.genPinDir = s.isWrite ∧
      (s.isWrite = true → s.input.genPinDout = s.wdata) ∧ s.input.genPinPhi2 = false

end Sys2Proof.Machine
end

