-- ==== Sys2Proof/Certificates/Slice0/Obligations.lean ====
section
/-!
DEFINITION. The statements for the provers. Each docstring says what its statement claims and which rules of spec/ it
follows; OBLIGATIONS.json lists them in this order. "quiet" and "Runs" are Sys2Proof/Safety.lean's.
-/

open Sys2Proof Sys2Proof.Machine

/-! ## Encodings (spec/30_encoding.md) -/

/-- For every instruction of all nine rows, with every operand, decoding its word (as a CMD word, or as a table entry
on a read or write access) gives the instruction back: no bit of an encoding is dropped. (R96, R101, R102, R109.) -/
def Obligations.DecodeEncodeAgree : Prop :=
  ∀ i : Instr, decode (encode i) = .ok i

/-- For every one of the 2^48 command words: an instruction it decodes to has it as its own encoding, and it is
reserved exactly when CMD[7:0] is none of 0, 1 and 2 (OP = 11 or RSVD nonzero). (R97, R98, R109, R110.) -/
def Obligations.CommandWordsDecodeExactly : Prop :=
  ∀ w : CmdWord,
    (∀ i, decodeCmd w = .ok i → encode i = .cmd w) ∧
      ((∃ r, decodeCmd w = .error r) ↔ 3 ≤ (w.extractLsb' 0 8).toNat)

/-- The fields of a table entry (START, LENGTH, RS, WS) and of a bit-map entry (PORT, BIT, INV) determine the word and
are determined by it: all 2^36 and all 2^6 words are well-formed. (R101, R102, R107.) -/
def Obligations.TableAndMapWordsRoundTrip : Prop :=
  (∀ w : EntryWord, (Entry.ofWord w).toWord = w) ∧ (∀ e : Entry, Entry.ofWord e.toWord = e) ∧
    (∀ w : MapWord, (MapEntry.ofWord w).toWord = w) ∧ (∀ m : MapEntry, MapEntry.ofWord m.toWord = m)

/-- The three example commands of R113 assemble to their words and the words decode to them; each pseudo-instruction
assembles as the command it expands to. (R113.) -/
def Obligations.ExampleWordsOfTheSpec : Prop :=
  assemble (.rd 0x0500) = some (.cmd 0x000005000000#48) ∧
    assemble (.wr 0x0500 0xA5) = some (.cmd 0x00000500A501#48) ∧
    assemble (.lk 0x10500) = some (.cmd 0x000105000002#48) ∧
    decodeCmd 0x000005000000#48 = .ok (.rd 0x00000500#32 0x00#8) ∧
    decodeCmd 0x00000500A501#48 = .ok (.wr 0x00000500#32 0xA5#8) ∧
    decodeCmd 0x000105000002#48 = .ok (.lk 0x00010500#32 0x00#8) ∧
    (∀ a, assemble (.memoryRead a) = assemble (.rd a)) ∧
    (∀ a d, assemble (.memoryWrite a d) = assemble (.wr a d)) ∧
    (∀ a, assemble (.lookup a) = assemble (.lk a))

/-- RD, WR and LK with an address below 2^32 (and data at most 255) assemble to a word that decodes to the command
with that address in ADDR_IN; with a larger address or datum they do not assemble. ENTRY with START and LENGTH below
2^16 assembles, for every RS and WS, to the table word with those four fields; with a larger START or LENGTH it does
not assemble. SENTINEL assembles as ENTRY 0, 0, DEFAULT, DEFAULT. (WDATA = 0 in RD and LK words, and the bounds of
START and LENGTH, the widths of their fields, are the model's, log 22.) (R96, R102, R112.) -/
def Obligations.AssemblerTakesExactlyTheLegalOperands : Prop :=
  (∀ a : Nat, a < 2 ^ 32 → ∃ w, assemble (.rd a) = some (.cmd w) ∧ decodeCmd w = .ok (.rd (BitVec.ofNat 32 a) 0#8)) ∧
    (∀ a : Nat, a < 2 ^ 32 → ∃ w, assemble (.lk a) = some (.cmd w) ∧ decodeCmd w = .ok (.lk (BitVec.ofNat 32 a) 0#8)) ∧
    (∀ a d : Nat, a < 2 ^ 32 → d ≤ 255 →
      ∃ w, assemble (.wr a d) = some (.cmd w) ∧ decodeCmd w = .ok (.wr (BitVec.ofNat 32 a) (BitVec.ofNat 8 d))) ∧
    (∀ a : Nat, 2 ^ 32 ≤ a → assemble (.rd a) = none ∧ assemble (.lk a) = none) ∧
    (∀ a d : Nat, 2 ^ 32 ≤ a ∨ 255 < d → assemble (.wr a d) = none) ∧
    (∀ (b l : Nat) (rs ws : Strat), b < 2 ^ 16 → l < 2 ^ 16 → ∃ w, assemble (.entry b l rs ws) = some (.entry w) ∧
      Entry.ofWord w = ⟨BitVec.ofNat 16 b, BitVec.ofNat 16 l, rs, ws⟩) ∧
    (∀ (b l : Nat) (rs ws : Strat), 2 ^ 16 ≤ b ∨ 2 ^ 16 ≤ l → assemble (.entry b l rs ws) = none) ∧
    assemble .sentinel = assemble (.entry 0 0 .default .default)

/-- STATUS, RDV, RDATA, RS and WS stand at their bits of the 24-bit response word, bits 7:3 and 23:20 are 0, and
STATUS is never 11. (R104, R105, R106.) -/
def Obligations.ResponseWordFields : Prop :=
  ∀ s : State,
    s.rspWord.extractLsb' 0 2 = s.rspStatus.toBits ∧ s.rspWord.getLsbD 2 = s.rspRdv ∧
      s.rspWord.extractLsb' 3 5 = 0#5 ∧ s.rspWord.extractLsb' 8 8 = s.rspRdata ∧
      s.rspWord.extractLsb' 16 2 = s.rspRs.toBits ∧ s.rspWord.extractLsb' 18 2 = s.rspWs.toBits ∧
      s.rspWord.extractLsb' 20 4 = 0#4 ∧ s.rspWord.extractLsb' 0 2 ≠ 0b11#2

/-! ## The step, reset and the invariant (spec/00_scope.md R27, spec/70_reset_and_hazards.md) -/

/-- Without reset, and with the generic unit's duties kept, the step is one tick of exec of the decoded instruction,
after which the input stream moves on. What is decoded: in IDLE the word offered on CMD, in DISPATCH the word rebuilt
from the latch, in GEN the generic row of the latched direction, in SETUP to FIN the synchronized row that `strat`
names (the operands are those of the entry that serves the address, log 12). (R27, R35, R109.) -/
def Obligations.StepRunsTheDecodedInstruction : Prop :=
  ∀ (s : State) (i : Instr), s.input.rstN = true → s.dutyBroken = none →
    ((s.st = .idle ∧ s.input.cmdValid = true ∧ decodeCmd s.input.cmd = .ok i) ∨
      (s.st = .dispatch ∧ decodeCmd s.latchedWord = .ok i) ∨
      (s.st = .gen ∧ i = genericInstr s.isWrite (servingEntry s.conf s.addr)) ∨
      ((s.st = .setup ∨ s.st.onBus = true) ∧ i = syncInstr s.isWrite s.strat (servingEntry s.conf s.addr))) →
    step s = advanceOutcome (exec i s)

/-- If IDLE accepts a word that decodes to RD, WR or LK, the word rebuilt from the latch decodes to the same command
with ADDR_IN[31:16] cleared; if the word is reserved, so is the latched one. (The rebuilt word, with ADDR_IN[31:16]
cleared and RSVD as one bit, is the model's own device, log 16.) (R36, R100, R120, R200.) -/
def Obligations.LatchKeepsTheCommand : Prop :=
  ∀ (s : State) (w : CmdWord),
    let t := s.latch (cmdOp w) (decide (cmdRsvd w ≠ 0#6)) (a16 (cmdAddrIn w)) (cmdWdata w)
    (∀ a d, decodeCmd w = .ok (.rd a d) → decodeCmd t.latchedWord = .ok (.rd ((a.extractLsb' 0 16).setWidth 32) d)) ∧
      (∀ a d, decodeCmd w = .ok (.wr a d) → decodeCmd t.latchedWord = .ok (.wr ((a.extractLsb' 0 16).setWidth 32) d)) ∧
      (∀ a d, decodeCmd w = .ok (.lk a d) → decodeCmd t.latchedWord = .ok (.lk ((a.extractLsb' 0 16).setWidth 32) d)) ∧
      (∀ r, decodeCmd w = .error r → ∃ r', decodeCmd t.latchedWord = .error r')

/-- In every state, at a reset tick or with the generic unit's duties kept, the step answers a next state: the FSM's
step of R35, which reads op and strat where the spec's pseudocode reads them (and replaces every state's step by RESET
at a reset tick). (R27, R35, R200, R201.) -/
def Obligations.StepIsTheFsmStep : Prop :=
  ∀ s : State, (s.input.rstN = true → s.dutyBroken = none) → step s = .next s.fsmStep

/-- The engine never faults. It is refused exactly at a tick without reset with GEN_DONE = 1 outside GEN, or at the
first tick of a GEN span. (Refusing there is the model's reading of R137, log 9; that it never faults is log 17.)
(R137, R225, R250.) -/
def Obligations.OnlyABrokenDutyStops : Prop :=
  ∀ s : State, (∀ f, step s ≠ .fault f) ∧
    (∀ r, step s = .refused r ↔ s.input.rstN = true ∧ s.input.genDone = true ∧
      ((s.st ≠ .gen ∧ r = .genDoneOutsideGen) ∨ (s.st = .gen ∧ s.genFirst = true ∧ r = .genDoneAtFirstTick)))

/-- At a tick with RST_N = 0 the step gives the reset values of R250 whatever the state and the other inputs; addr_r
and dout_r are draws, of which nothing is said; the outputs of the tick itself are still those of the state, with
CMD_READY = 0. (R250.) -/
def Obligations.ResetStepSetsEveryRegister : Prop :=
  ∀ s : State, s.input.rstN = false →
    s.cmdReady = false ∧ (∀ i j : Input, i.rstN = false → j.rstN = false → step (s.withInput i) = step (s.withInput j)) ∧
    ∃ t, step s = .next t ∧ t.st = .idle ∧ t.op = 0#2 ∧ t.rsvdNz = false ∧ t.addr = 0#16 ∧ t.wdata = 0#8 ∧
      t.strat = .default ∧ t.cnt = 0 ∧ t.polls = 0 ∧ t.scratch = 0#8 ∧ t.finStatus = .success ∧
      t.rwR = true ∧ t.phi2R = false ∧ t.dirR = false ∧ t.rspValid = false ∧ t.rspStatus = .success ∧
      t.rspRdv = false ∧ t.rspRdata = 0#8 ∧ t.rspRs = .default ∧ t.rspWs = .default ∧
      t.cfg = s.cfg ∧ t.inputs = s.inputs.tail

/-- For the reset state of every instance (State.reset is one of them): every register at its value of R61, the
configuration the configured one, and the outputs that follow. addr_r and dout_r are draws, of which nothing is said.
(R61.) -/
def Obligations.ResetStateValues : Prop :=
  (∃ c, State.reset = State.resetOf c) ∧ ∀ c : WfConfig,
    let s := State.resetOf c
    s.st = .idle ∧ s.st.code = 0#4 ∧ s.op = 0#2 ∧ s.rsvdNz = false ∧ s.addr = 0#16 ∧ s.wdata = 0#8 ∧
      s.strat.toBits = 0#2 ∧ s.cnt = 0 ∧ s.polls = 0 ∧ s.scratch = 0#8 ∧ s.finStatus = .success ∧
      s.rwR = true ∧ s.phi2R = false ∧ s.dirR = false ∧ s.rspValid = false ∧ s.rspStatus.toBits = 0#2 ∧
      s.rspRdv = false ∧ s.rspRdata = 0#8 ∧ s.rspRs.toBits = 0#2 ∧ s.rspWs.toBits = 0#2 ∧ s.cfg = c ∧
      (∀ i, i.rstN = true → (s.withInput i).cmdReady = true) ∧ s.irqInhibit = false ∧ s.genReq = false ∧
      s.busPins.rw = true ∧ s.busPins.phi2Out = false ∧ s.busPins.dataDir = false

/-- The reset state of every instance satisfies the invariant Inv of Sys2Proof/Safety.lean. (The draws and the model's
own fields are free or unread, logs 2, 4.) (R61, R62.) -/
def Obligations.ResetSatisfiesInv : Prop :=
  (∀ c : WfConfig, Inv (State.resetOf c)) ∧ Inv State.reset

/-- From every state that satisfies Inv, whatever the inputs, a step that answers a next state gives one that
satisfies Inv: RSP_VALID only in IDLE, PHI2 high exactly in HIGH, RW low only on the bus of a synchronized write,
address, direction and write data held on the bus, a cycle only for an RD or WR whose selected strategy has it in this
build, and the counters within their bounds. (The bound on polls past POLL_BUDGET rests on log 6; the first-tick mark
is the model's own, log 9.) (R24, R38, R62, R91, R150, R153, R169, R202, R215.) -/
def Obligations.StepKeepsInv : Prop :=
  ∀ s t : State, Inv s → step s = .next t → Inv t

/-- cnt fits CNT_W as R24 derives it, and polls fits POLL_W: the least width that holds a finite POLL_BUDGET, any
width for NONE (log 7). With a finite budget polls is at most POLL_BUDGET through CHIGH, and at most POLL_BUDGET + 2
after it (that a hit on the budget's last poll is followed by more polls, and what polls then holds, is log 6). (R24,
R38, R39.) -/
def Obligations.CountersFitTheirWidths : Prop :=
  ∀ s : State, Inv s →
    s.cnt < 2 ^ cntW s.conf ∧ s.polls < 2 ^ pollW s.conf ∧
    (s.conf.pollUnbounded = false →
      (s.st = .clow ∨ s.st = .chigh → s.polls ≤ s.conf.pollBudget) ∧ s.polls ≤ s.conf.pollBudget + 2 ∧
      s.conf.pollBudget < 2 ^ pollW s.conf ∧ ∀ w, s.conf.pollBudget < 2 ^ w → 0 < w → pollW s.conf ≤ w)

/-- Under the invariant, at an IDLE tick the pins show RW = 1 and PHI2_OUT = 0, IRQ_INHIBIT is 0 and GEN_REQ is 0;
with RST_N = 1 an offered command is accepted. (R62, R254.) -/
def Obligations.IdleIsQuiescent : Prop :=
  ∀ s : State, Inv s → s.st = .idle →
    s.quiescent ∧ s.genReq = false ∧ (s.input.rstN = true → s.input.cmdValid = true → s.accepts = true)

/-- CMD_READY is 1 exactly in IDLE with RST_N = 1, and a command is accepted exactly when it is offered then; a
command offered otherwise changes nothing of the step. IRQ_INHIBIT is 1 exactly in the states coded 4 to 9. The bus
pins show the generic unit's drive in GEN and the bus registers elsewhere. CAP_SYNC is CFG0. GEN_REQ is 1 exactly in
GEN; GEN_OP, GEN_ADDR and GEN_WDATA are op[0], addr and wdata, and no GEN step without reset changes them. (R45, R46,
R47, R48.) -/
def Obligations.OutputPinsOfTheState : Prop :=
  ∀ s : State,
    (s.cmdReady = true ↔ s.st = .idle ∧ s.input.rstN = true) ∧
    (s.accepts = true ↔ s.input.cmdValid = true ∧ s.cmdReady = true) ∧
    (s.cmdReady = false → ∀ v w,
      step (s.withInput { s.input with cmdValid := v, cmd := w }) = step (s.withInput s.input)) ∧
    (s.irqInhibit = true ↔ s.st = .clow ∨ s.st = .chigh ∨ s.st = .fine ∨ s.st = .wait ∨ s.st = .high ∨ s.st = .samp) ∧
    (s.irqInhibit = true ↔ 4 ≤ s.st.code.toNat ∧ s.st.code.toNat ≤ 9) ∧
    (s.st = .gen → s.busPins = ⟨s.input.genPinAddr, s.input.genPinDout, s.input.genPinDir, s.input.genPinRw,
      s.input.genPinPhi2⟩) ∧
    (s.st ≠ .gen → s.busPins = ⟨s.addrR, s.doutR, s.dirR, s.rwR, s.phi2R⟩) ∧
    s.capSync = s.conf.syncSupported ∧
    (s.genReq = true ↔ s.st = .gen) ∧ s.genOp = s.op.getLsbD 0 ∧ s.genAddr = s.addr ∧ s.genWdata = s.wdata ∧
    (s.st = .gen → s.input.rstN = true → ∀ t, step s = .next t →
      t.genOp = s.genOp ∧ t.genAddr = s.genAddr ∧ t.genWdata = s.genWdata)

/-- A step leaves CFG0 to CFG14, and with them the lookup of every address and CAP_SYNC, as they are. In a step
without reset, the command latch changes only in IDLE, strat only in DISPATCH, scratch only in SAMP of a read,
fin_status only in SETUP, CLOW, CHIGH and FINE, polls only there too, and cnt never in GEN or FIN. (R36, R37, R39,
R40, R41, R44, R51, R89, R253.) -/
def Obligations.RegistersWrittenByEachState : Prop :=
  ∀ s t : State, step s = .next t →
    (t.cfg = s.cfg ∧ t.capSync = s.capSync ∧ ∀ a, lookup t.conf a = lookup s.conf a) ∧ (s.input.rstN = true →
    (s.st ≠ .idle → t.op = s.op ∧ t.rsvdNz = s.rsvdNz ∧ t.addr = s.addr ∧ t.wdata = s.wdata) ∧
    (s.st ≠ .dispatch → t.strat = s.strat) ∧
    (s.st ≠ .samp ∨ s.isWrite = true → t.scratch = s.scratch) ∧
    (s.st ≠ .setup ∧ s.st ≠ .clow ∧ s.st ≠ .chigh ∧ s.st ≠ .fine → t.finStatus = s.finStatus ∧ t.polls = s.polls) ∧
    (s.st = .gen ∨ s.st = .fin → t.cnt = s.cnt))

/-! ## Acceptance, dispatch and responses (spec/43_dispatch.md, spec/40_strategy_table.md) -/

/-- At an IDLE tick without reset (and with GEN_DONE = 0): an offered word is latched (OP, whether RSVD is nonzero,
CMD[31:16], CMD[15:8]), the dispatch delay is loaded and DISPATCH entered; with none offered no register changes
except rsp_valid. No bus register changes, and PHI0_IN and PORT_IN are not read. (R200.) -/
def Obligations.IdleAcceptsAndLatches : Prop :=
  ∀ s : State, s.st = .idle → s.input.rstN = true → s.input.genDone = false →
    (s.input.cmdValid = true →
      step s = .next { s with
        op := s.input.cmd.extractLsb' 0 2
        rsvdNz := decide (s.input.cmd.extractLsb' 2 6 ≠ 0#6)
        addr := s.input.cmd.extractLsb' 16 16
        wdata := s.input.cmd.extractLsb' 8 8
        cnt := s.conf.tDispatch - 1
        st := .dispatch
        rspValid := false
        inputs := s.inputs.tail
        tick := s.tick + 1 }) ∧
    (s.input.cmdValid = false →
      step s = .next { s with rspValid := false, inputs := s.inputs.tail, tick := s.tick + 1 })

/-- While the dispatch delay runs, each of the nine instructions answers the next state with cnt one less and
rsp_valid 0, and nothing else changed. (R201, R38.) -/
def Obligations.DispatchCountsDown : Prop :=
  ∀ (s : State) (i : Instr), s.st = .dispatch → 0 < s.cnt →
    exec i s = .next { s with cnt := s.cnt - 1, rspValid := false }

/-- At the last DISPATCH tick lk answers the next state with RSP_VALID = 1, STATUS Success, RDV = 0, RDATA = 0x00, RS
and WS the lookup of the latched address, in IDLE; nothing else changes, whatever CFG_SYNC_SUPPORTED is. (R129, R201.)
-/
def Obligations.LkReportsTheStrategies : Prop :=
  ∀ (s : State) (a : HostAddr) (d : Byte), s.st = .dispatch → s.cnt = 0 →
    exec (.lk a d) s = .next { s with
      rspValid := true, rspStatus := .success, rspRdv := false, rspRdata := 0x00#8,
      rspRs := (lookup s.conf s.addr).1, rspWs := (lookup s.conf s.addr).2, st := .idle }

/-- At the last DISPATCH tick rd (by rs) and wr (by ws) answer the next state with strat written and, by the selected
code: DEFAULT enters GEN; SYNC_PHI0 or SYNC_PHI0_SKIP enters SETUP when the build has the synchronized cycle, else
responds NotImplemented; the reserved code responds NotImplemented. Nothing else changes (genFirst is the model's own
mark). (R201, R203, R204, R205, R206, R207.) -/
def Obligations.RdAndWrRouteByTheSelectedStrategy : Prop :=
  ∀ (s : State) (a : HostAddr) (d : Byte) (i : Instr) (w : Bool),
    (i = .rd a d ∧ w = false) ∨ (i = .wr a d ∧ w = true) → s.st = .dispatch → s.cnt = 0 →
    let k : Strat := if w then (lookup s.conf s.addr).2 else (lookup s.conf s.addr).1
    let refusedByMux : State := { s with
      strat := k, rspValid := true, rspStatus := .notImplemented, rspRdv := false, rspRdata := 0x00#8,
      rspRs := .default, rspWs := .default, st := .idle }
    (k = .default → exec i s = .next { s with strat := k, st := .gen, genFirst := true, rspValid := false }) ∧
    (k = .syncPhi0 ∨ k = .syncPhi0Skip → s.conf.syncSupported = true →
      exec i s = .next { s with strat := k, st := .setup, rspValid := false }) ∧
    (k = .syncPhi0 ∨ k = .syncPhi0Skip → s.conf.syncSupported = false → exec i s = .next refusedByMux) ∧
    (k = .reserved → exec i s = .next refusedByMux)

/-- At the last DISPATCH tick rd is the row that rs of the latched address names, wr the row that ws names (so each
row enters its own cycle, or NotImplemented where the build lacks it). In GEN a tick of rd is a tick of rsDefault and
a tick of wr one of wsDefault; in SETUP to FIN, with strat SYNC_PHI0 or SYNC_PHI0_SKIP, a tick of rd or wr is a tick
of the synchronized row of its direction and that strategy. All of them answer a next state. (R205, R212, R213.) -/
def Obligations.CommandsRunTheirCycle : Prop :=
  ∀ (s : State) (a : HostAddr) (d : Byte) (b l : Addr) (x : Strat),
    (s.st = .dispatch →
      (s.selected false = .default → exec (.rd a d) s = exec (.rsDefault b l x) s) ∧
      (s.selected false = .syncPhi0 → exec (.rd a d) s = exec (.rsSyncPhi0 b l x) s) ∧
      (s.selected false = .syncPhi0Skip → exec (.rd a d) s = exec (.rsSyncPhi0Skip b l x) s) ∧
      (s.selected true = .default → exec (.wr a d) s = exec (.wsDefault b l x) s) ∧
      (s.selected true = .syncPhi0 → exec (.wr a d) s = exec (.wsSyncPhi0 b l x) s) ∧
      (s.selected true = .syncPhi0Skip → exec (.wr a d) s = exec (.wsSyncPhi0Skip b l x) s)) ∧
    (s.st = .gen → exec (.rd a d) s = exec (.rsDefault b l x) s ∧ exec (.wr a d) s = exec (.wsDefault b l x) s ∧
      (∃ t, exec (.rd a d) s = .next t) ∧ (∃ t, exec (.wr a d) s = .next t)) ∧
    (s.st = .setup ∨ s.st.onBus = true → s.strat = .syncPhi0 →
      exec (.rd a d) s = exec (.rsSyncPhi0 b l x) s ∧ exec (.wr a d) s = exec (.wsSyncPhi0 b l x) s) ∧
    (s.st = .setup ∨ s.st.onBus = true → s.strat = .syncPhi0Skip →
      exec (.rd a d) s = exec (.rsSyncPhi0Skip b l x) s ∧ exec (.wr a d) s = exec (.wsSyncPhi0Skip b l x) s) ∧
    (s.st = .setup ∨ s.st.onBus = true →
      (∃ t, exec (.rd a d) s = .next t) ∧ (∃ t, exec (.wr a d) s = .next t))

/-- A DEDUCED convention of the model (log 13), no rule of the spec: LK outside IDLE and DISPATCH, a generic row
outside DISPATCH and GEN, and a synchronized row in IDLE or GEN are refused as notAtThisTick. The step never asks for
these. (R35, R129, R150.) -/
def Obligations.WhereInstructionsHaveNoTick : Prop :=
  ∀ (s : State) (i : Instr),
    ((∃ a d, i = .lk a d) → s.st ≠ .idle → s.st ≠ .dispatch → exec i s = .refused .notAtThisTick) ∧
    (∀ w, genericRow i = some w → s.st ≠ .dispatch → s.st ≠ .gen → exec i s = .refused .notAtThisTick) ∧
    (∀ w k, syncRow i = some (w, k) → s.st = .idle ∨ s.st = .gen → exec i s = .refused .notAtThisTick)

/-- From any IDLE state in which an LK word is offered, with no reset and no GEN_DONE meanwhile: at tick T_DISPATCH +
1, and at no earlier tick after the first, the engine is in IDLE with the response Success, no data, and the
strategies of ADDR_IN[15:0]; at every tick up to then IRQ_INHIBIT is 0 and the bus pins are as at the start. (R82,
R129, R132, R201, R266.) -/
def Obligations.LkRunResponds : Prop :=
  ∀ (s : State) (a : HostAddr) (d : Byte), s.st = .idle → s.input.cmdValid = true →
    decodeCmd s.input.cmd = .ok (.lk a d) → s.quiet (s.conf.tDispatch + 1) →
    (∃ t, Runs (s.conf.tDispatch + 1) s t ∧ t.st = .idle ∧
      t.hasResponse .success none (lookup s.conf (a.extractLsb' 0 16)).1 (lookup s.conf (a.extractLsb' 0 16)).2) ∧
    ∀ k t, k ≤ s.conf.tDispatch + 1 → Runs k s t →
      t.irqInhibit = false ∧ t.busPins = s.busPins ∧ (0 < k → k < s.conf.tDispatch + 1 → t.st = .dispatch)

/-- From any IDLE state in which a word is offered that is reserved (OP = 11 or RSVD nonzero), or is an RD or WR whose
selected strategy is the reserved code (whatever CFG_SYNC_SUPPORTED), or a synchronized code in a build without the
synchronized cycle: with no reset and no GEN_DONE meanwhile, at tick T_DISPATCH + 1 the engine is in IDLE with
RSP_VALID = 1 and RSP = 0x000001; up to then IRQ_INHIBIT stays 0 and no bus pin changes. (R104, R201, R206, R207,
R208, R266.) -/
def Obligations.NotImplementedRunResponds : Prop :=
  ∀ s : State, s.st = .idle → s.input.cmdValid = true → s.quiet (s.conf.tDispatch + 1) →
    ((∃ r, decodeCmd s.input.cmd = .error r) ∨
      (∃ a d k, ((decodeCmd s.input.cmd = .ok (.rd a d) ∧ k = (lookup s.conf (a.extractLsb' 0 16)).1) ∨
          (decodeCmd s.input.cmd = .ok (.wr a d) ∧ k = (lookup s.conf (a.extractLsb' 0 16)).2)) ∧
        (k = .reserved ∨ (k ≠ .default ∧ s.conf.syncSupported = false)))) →
    (∃ t, Runs (s.conf.tDispatch + 1) s t ∧ t.st = .idle ∧ t.rspValid = true ∧ t.rspWord = 0x000001#24) ∧
    ∀ k t, k ≤ s.conf.tDispatch + 1 → Runs k s t → t.irqInhibit = false ∧ t.busPins = s.busPins

/-- Whatever the state: a step into GEN from another state comes from the last DISPATCH tick of an RD or WR whose
selected strategy is DEFAULT; a step into SETUP from the last DISPATCH tick of one whose selected strategy is
synchronized, with CFG_SYNC_SUPPORTED = 1. So no failure falls back to the generic cycle. (R150, R202, R203, R204,
R205, R209.) -/
def Obligations.NoFallbackToAnotherCycle : Prop :=
  ∀ s t : State, step s = .next t →
    (t.st = .gen → s.st ≠ .gen → s.st = .dispatch ∧ s.cnt = 0 ∧ s.rsvdNz = false ∧ (s.op = 0b00#2 ∨ s.op = 0b01#2) ∧
      s.selected s.isWrite = .default) ∧
    (t.st = .setup → s.st = .dispatch ∧ s.cnt = 0 ∧ s.rsvdNz = false ∧ (s.op = 0b00#2 ∨ s.op = 0b01#2) ∧
      (s.selected s.isWrite = .syncPhi0 ∨ s.selected s.isWrite = .syncPhi0Skip) ∧ s.conf.syncSupported = true)

/-- In a step without reset: IDLE goes to IDLE or DISPATCH; DISPATCH stays or goes to IDLE, GEN or SETUP; GEN stays or
goes to IDLE; SETUP goes to CLOW; CLOW stays or goes to CHIGH or FIN; CHIGH stays or goes to FINE or FIN; FINE stays
or goes to WAIT or FIN; WAIT stays or goes to HIGH; HIGH stays or goes to SAMP; SAMP stays or goes to FIN; FIN goes to
IDLE. A reset goes to IDLE. (R49, R150, R200, R201, R136, R250.) -/
def Obligations.StateTransitionsOfTheFsm : Prop :=
  ∀ s t : State, step s = .next t → if s.input.rstN then
      (match s.st with
        | .idle => t.st = .idle ∨ t.st = .dispatch
        | .dispatch => t.st = .dispatch ∨ t.st = .idle ∨ t.st = .gen ∨ t.st = .setup
        | .gen => t.st = .gen ∨ t.st = .idle
        | .setup => t.st = .clow
        | .clow => t.st = .clow ∨ t.st = .chigh ∨ t.st = .fin
        | .chigh => t.st = .chigh ∨ t.st = .fine ∨ t.st = .fin
        | .fine => t.st = .fine ∨ t.st = .wait ∨ t.st = .fin
        | .wait => t.st = .wait ∨ t.st = .high
        | .high => t.st = .high ∨ t.st = .samp
        | .samp => t.st = .samp ∨ t.st = .fin
        | .fin => t.st = .idle)
    else t.st = .idle

/-- In a step without reset from a state other than IDLE, the engine is in IDLE afterwards exactly when RSP_VALID is 1
afterwards; from IDLE, RSP_VALID is 0 afterwards. So each accepted command has exactly one response, and responses
come before the next acceptance. (R85, R214, R216.) -/
def Obligations.BusyUntilTheResponse : Prop :=
  ∀ s t : State, s.input.rstN = true → step s = .next t →
    (s.st ≠ .idle → (t.st = .idle ↔ t.rspValid = true)) ∧ (s.st = .idle → t.rspValid = false)

/-- RSP_VALID is the register rsp_valid. Under the invariant it is 1 only at an IDLE tick, and then it is 0 at the
next tick, at which a command offered now has been accepted. A step without reset that leaves rsp_valid 0 leaves the
five other response registers as they were. (R215.) -/
def Obligations.ResponseHeldUntilTheNext : Prop :=
  ∀ s t : State, Inv s → step s = .next t →
    (s.rspValid = true → s.st = .idle ∧ t.rspValid = false ∧ (s.accepts = true → t.st = .dispatch)) ∧
    (t.rspValid = true → t.st = .idle ∧ s.st ≠ .idle) ∧
    (s.input.rstN = true → t.rspValid = false →
      t.rspStatus = s.rspStatus ∧ t.rspRdv = s.rspRdv ∧ t.rspRdata = s.rspRdata ∧ t.rspRs = s.rspRs ∧
        t.rspWs = s.rspWs)

/-- Two samples that differ only in CMD[47:32] give the same next state; two that differ only in CMD[15:8] give next
states that differ at most in wdata. (R99, R100, R120.) -/
def Obligations.AddressHighBitsAndIdleDataIgnored : Prop :=
  ∀ (s : State) (v w : CmdWord),
    (v.extractLsb' 0 32 = w.extractLsb' 0 32 →
      step (s.withInput { s.input with cmd := v }) = step (s.withInput { s.input with cmd := w })) ∧
    (v.extractLsb' 0 8 = w.extractLsb' 0 8 → v.extractLsb' 16 16 = w.extractLsb' 16 16 → ∀ t u,
      step (s.withInput { s.input with cmd := v }) = .next t → step (s.withInput { s.input with cmd := w }) = .next u →
      u = { t with wdata := u.wdata })

/-! ## The strategy lookup (spec/40_strategy_table.md) -/

/-- Under EXACT17 an entry with nonzero length matches exactly the addresses from START to min(START + LENGTH,
0x10000) - 1; under WRAP16 the same when the sum is below 0x10000, and none when it is not; an entry of length 0
matches nothing. (R122.) -/
def Obligations.RangeMatchOfAnEntry : Prop :=
  ∀ (e : Entry) (a : Addr),
    (covers .exact17 e a = true ↔ e.length ≠ 0#16 ∧ e.start.toNat ≤ a.toNat ∧
      a.toNat ≤ min (e.start.toNat + e.length.toNat) 0x10000 - 1) ∧
    (0x10000 ≤ e.start.toNat + e.length.toNat → covers .wrap16 e a = false) ∧
    (e.start.toNat + e.length.toNat < 0x10000 → covers .wrap16 e a = covers .exact17 e a) ∧
    (∀ r, e.length = 0#16 → covers r e a = false)

/-- If a table is some entries that are neither sentinels nor matches, then a matching entry, then anything, the
lookup returns that entry's read and write codes as stored, the reserved code included. (R73, R123, R128, R131.) -/
def Obligations.FirstMatchWins : Prop :=
  ∀ (c : Config) (a : Addr) (pre post : List Entry) (e : Entry), c.table = pre ++ e :: post →
    (∀ x ∈ pre, x.length ≠ 0#16 ∧ covers c.rangeArith x a = false) →
    covers c.rangeArith e a = true → lookup c a = (e.rs, e.ws)

/-- If a table is some entries that match nothing, then a sentinel, then anything, the lookup returns (DEFAULT,
DEFAULT); the entries after the first sentinel never matter; and a table that ends without a sentinel behaves as if
one followed. (R124, R125, R126.) -/
def Obligations.SentinelEndsTheLookup : Prop :=
  ∀ (c : Config) (a : Addr) (pre post : List Entry) (z : Entry), z.length = 0#16 →
    (c.table = pre ++ z :: post → (∀ x ∈ pre, covers c.rangeArith x a = false) →
      lookup c a = (.default, .default)) ∧
    (∀ post', c.table = pre ++ z :: post → lookup c a = lookup { c with table := pre ++ z :: post' } a) ∧
    (c.table = pre → lookup c a = lookup { c with table := pre ++ [z] } a) ∧
    (c.table = pre → (∀ x ∈ pre, covers c.rangeArith x a = false) → lookup c a = (.default, .default))

/-! ## The generic cycle (spec/41_generic_cycle.md) -/

/-- In GEN at a tick with GEN_DONE = 1, rsDefault answers the next state with RW back to read, the address on
ADDR_OUT's register, direction input, and the response Success with GEN_RDATA; wsDefault the one with direction output
and the data byte, and the response Success without data; phi2_r and every other register are as before. With GEN_DONE
= 0 both only clear rsp_valid and the model's first-tick mark (log 9). (R136, R139, R140, R141.) -/
def Obligations.GenericCycleCompletes : Prop :=
  ∀ (s : State) (b l : Addr) (x : Strat), s.st = .gen →
    (s.input.genDone = true →
      exec (.rsDefault b l x) s = .next { s with
        rwR := true, addrR := s.addr, dirR := false, rspValid := true, rspStatus := .success, rspRdv := true,
        rspRdata := s.input.genRdata, rspRs := .default, rspWs := .default, st := .idle, genFirst := false } ∧
      exec (.wsDefault b l x) s = .next { s with
        rwR := true, addrR := s.addr, dirR := true, doutR := s.wdata, rspValid := true, rspStatus := .success,
        rspRdv := false, rspRdata := 0x00#8, rspRs := .default, rspWs := .default, st := .idle, genFirst := false }) ∧
    (s.input.genDone = false →
      exec (.rsDefault b l x) s = .next { s with rspValid := false, genFirst := false } ∧
      exec (.wsDefault b l x) s = .next { s with rspValid := false, genFirst := false })

/-- From any GEN state, with no reset and GEN_DONE = 0 for n ticks, the engine is in GEN after n ticks, for every n;
GEN_REQ stays 1, no response is given, and no register changes. (R143.) -/
def Obligations.GenStaysUntilDone : Prop :=
  ∀ (s : State) (n : Nat), s.st = .gen → s.rspValid = false → s.quiet n →
    ∃ t, Runs n s t ∧ t.st = .gen ∧ t.genReq = true ∧ t.rspValid = false ∧ s.sameEngine t

/-- From any IDLE state in which an RD or a WR is offered whose truncated address selects DEFAULT in its direction: if
there is no reset, and GEN_DONE is 1 first at tick g, at least one tick after the first GEN tick, then from tick
T_DISPATCH + 1 to g the engine is in GEN, and at tick g + 1 it is in IDLE with Success, RW = 1, PHI2 as before, the
truncated address and the direction of the access on the registers, with the unit's byte on a read, and without data
and with the written byte on the data register on a write; IRQ_INHIBIT is 0 throughout. (R139, R140, R141, R142, R144,
R259, R266.) -/
def Obligations.GenericRunCompletes : Prop :=
  ∀ (s : State) (a : HostAddr) (d : Byte) (w : Bool) (g : Nat), s.st = .idle → s.input.cmdValid = true →
    decodeCmd s.input.cmd = .ok (if w then .wr a d else .rd a d) →
    (if w then (lookup s.conf (a.extractLsb' 0 16)).2 else (lookup s.conf (a.extractLsb' 0 16)).1) = .default →
    s.conf.tDispatch + 2 ≤ g → s.quiet g → (s.inputAt g).rstN = true → (s.inputAt g).genDone = true →
    (∃ t, Runs (g + 1) s t ∧ t.st = .idle ∧
      t.hasResponse .success (if w then none else some (s.inputAt g).genRdata) .default .default ∧
      t.rwR = true ∧ t.phi2R = s.phi2R ∧ t.addrR = a.extractLsb' 0 16 ∧ t.dirR = w ∧
      t.doutR = (if w then d else s.doutR)) ∧
    ∀ k t, k ≤ g → Runs k s t → t.irqInhibit = false ∧ (s.conf.tDispatch + 1 ≤ k → t.st = .gen)

/-- Under the invariant, at a GEN_DONE tick without reset at which the unit's drive equals the end state of R136 (and,
on a read, the data register), the next state's bus pins are the pins of this tick. (R136, R138.) -/
def Obligations.GenHandsTheBusOver : Prop :=
  ∀ s t : State, Inv s → s.st = .gen → s.input.rstN = true → s.input.genDone = true → s.unitEndDrive →
    (s.isWrite = false → s.input.genPinDout = s.doutR) → step s = .next t → t.st = .idle ∧ t.busPins = s.busPins

/-! ## The synchronized cycle (spec/42_sync_cycle.md) -/

/-- In SETUP the two read rows answer the next state with RW 1 and direction input, the two write rows the one with RW
0, direction output and the data byte; all put the address on its register, clear polls, cnt and fin_status, enter
CLOW, and change nothing else (phi2_r among it) but rsp_valid. (R151, R152.) -/
def Obligations.SetupDrivesTheBus : Prop :=
  ∀ (s : State) (b l : Addr) (x : Strat), s.st = .setup →
    let r : State := { s with
      addrR := s.addr, polls := 0, cnt := 0, finStatus := .success, rwR := true, dirR := false, st := .clow,
      rspValid := false }
    let w : State := { s with
      addrR := s.addr, polls := 0, cnt := 0, finStatus := .success, rwR := false, dirR := true, doutR := s.wdata,
      st := .clow, rspValid := false }
    exec (.rsSyncPhi0 b l x) s = .next r ∧ exec (.rsSyncPhi0Skip b l x) s = .next r ∧
      exec (.wsSyncPhi0 b l x) s = .next w ∧ exec (.wsSyncPhi0Skip b l x) s = .next w

/-- In CLOW and CHIGH each synchronized row answers: with cnt > 0 the state with cnt one less; at a poll that hits
(LOW in CLOW, HIGH in CHIGH), whatever its number, CHIGH with C_POLL - 1, respectively FINE with T_FIRST - 1; at a
poll that misses, FIN with NoClockDetected when its number is at least a finite POLL_BUDGET, else the same state with
C_POLL - 1. A poll counts in polls (past the budget polls holds at the most POLL_W bits can show, log 6); nothing else
changes but rsp_valid. (R153, R154, R155, R230.) -/
def Obligations.CoarsePolls : Prop :=
  ∀ (s : State) (i : Instr) (w : Bool) (k : Strat), syncRow i = some (w, k) → (s.st = .clow ∨ s.st = .chigh) →
    let p : Nat := if s.conf.pollUnbounded then (s.polls + 1) % 2 ^ pollW s.conf
      else min (s.polls + 1) (2 ^ pollW s.conf - 1)
    let hitLevel : Bool := decide (s.st = .chigh)
    let spent : Prop := s.conf.pollUnbounded = false ∧ s.conf.pollBudget ≤ s.polls + 1
    (0 < s.cnt → exec i s = .next { s with cnt := s.cnt - 1, rspValid := false }) ∧
    (s.cnt = 0 → s.st = .clow → s.input.phi0 = false →
      exec i s = .next { s with polls := p, st := .chigh, cnt := s.conf.cPoll - 1, rspValid := false }) ∧
    (s.cnt = 0 → s.st = .chigh → s.input.phi0 = true →
      exec i s = .next { s with polls := p, st := .fine, cnt := s.conf.tFirst - 1, rspValid := false }) ∧
    (s.cnt = 0 → s.input.phi0 = !hitLevel → spent →
      exec i s = .next { s with polls := p, finStatus := .noClockDetected, st := .fin, rspValid := false }) ∧
    (s.cnt = 0 → s.input.phi0 = !hitLevel → ¬ spent →
      exec i s = .next { s with polls := p, cnt := s.conf.cPoll - 1, rspValid := false })

/-- In FINE each synchronized row answers: with cnt > 0 the state with cnt one less; at a check that reads LOW,
whatever its poll number, WAIT with T_WAIT - 1 (SYNC_PHI0) or T_WAIT_SKIP - 1 (SYNC_PHI0_SKIP); at a check that reads
HIGH, FIN with NoClockDetected when its poll number is at least a finite POLL_BUDGET, else FINE with T_RULER - 1. A
check counts in polls (past the budget polls holds at the most POLL_W bits can show, log 6). (R153, R156, R158, R168,
R230.) -/
def Obligations.FineChecks : Prop :=
  ∀ (s : State) (i : Instr) (w : Bool) (k : Strat), syncRow i = some (w, k) → s.st = .fine →
    let p : Nat := if s.conf.pollUnbounded then (s.polls + 1) % 2 ^ pollW s.conf
      else min (s.polls + 1) (2 ^ pollW s.conf - 1)
    (0 < s.cnt → exec i s = .next { s with cnt := s.cnt - 1, rspValid := false }) ∧
    (s.cnt = 0 → s.input.phi0 = false → k = .syncPhi0 →
      exec i s = .next { s with polls := p, st := .wait, cnt := s.conf.tWait - 1, rspValid := false }) ∧
    (s.cnt = 0 → s.input.phi0 = false → k = .syncPhi0Skip →
      exec i s = .next { s with polls := p, st := .wait, cnt := s.conf.tWaitSkip - 1, rspValid := false }) ∧
    (s.cnt = 0 → s.input.phi0 = true → s.conf.pollUnbounded = false → s.conf.pollBudget ≤ s.polls + 1 →
      exec i s = .next { s with polls := p, finStatus := .noClockDetected, st := .fin, rspValid := false }) ∧
    (s.cnt = 0 → s.input.phi0 = true → (s.conf.pollUnbounded = true ∨ s.polls + 1 < s.conf.pollBudget) →
      exec i s = .next { s with polls := p, cnt := s.conf.tRuler - 1, rspValid := false })

/-- While cnt > 0 each of the three states only counts. At cnt = 0 WAIT raises PHI2 and enters HIGH with T_HIGH - 1;
HIGH lowers PHI2 and enters SAMP with T_SAMPLE; SAMP enters FIN, on a read with the reassembled snapshot of this
tick's ports in scratch, on a write with nothing else changed. (R158, R159, R160, R161.) -/
def Obligations.WaitHighSampTicks : Prop :=
  ∀ (s : State) (i : Instr) (w : Bool) (k : Strat), syncRow i = some (w, k) →
    ((s.st = .wait ∨ s.st = .high ∨ s.st = .samp) → 0 < s.cnt →
      exec i s = .next { s with cnt := s.cnt - 1, rspValid := false }) ∧
    (s.st = .wait → s.cnt = 0 →
      exec i s = .next { s with phi2R := true, st := .high, cnt := s.conf.tHigh - 1, rspValid := false }) ∧
    (s.st = .high → s.cnt = 0 →
      exec i s = .next { s with phi2R := false, st := .samp, cnt := s.conf.tSample, rspValid := false }) ∧
    (s.st = .samp → s.cnt = 0 → w = false →
      exec i s = .next { s with
        scratch := reassemble s.conf (portSample s.conf s.input), st := .fin, rspValid := false }) ∧
    (s.st = .samp → s.cnt = 0 → w = true → exec i s = .next { s with st := .fin, rspValid := false })

/-- In FIN each synchronized row answers the next state in IDLE with RW = 1 and RSP_VALID = 1: with fin_status
Success, STATUS Success, and on a read the byte of scratch, on a write none; otherwise STATUS NoClockDetected without
data. ADDR_OUT, DATA_DIR, DATA_OUT and every other register are as before, and IRQ_INHIBIT is already 0. (R162, R166,
R167.) -/
def Obligations.FinResponds : Prop :=
  ∀ (s : State) (i : Instr) (w : Bool) (k : Strat), syncRow i = some (w, k) → s.st = .fin →
    s.irqInhibit = false ∧
    (s.finStatus = .success → w = false →
      exec i s = .next { s with
        rwR := true, rspValid := true, rspStatus := .success, rspRdv := true, rspRdata := s.scratch,
        rspRs := .default, rspWs := .default, st := .idle }) ∧
    (s.finStatus = .success → w = true →
      exec i s = .next { s with
        rwR := true, rspValid := true, rspStatus := .success, rspRdv := false, rspRdata := 0x00#8,
        rspRs := .default, rspWs := .default, st := .idle }) ∧
    (s.finStatus ≠ .success →
      exec i s = .next { s with
        rwR := true, rspValid := true, rspStatus := .noClockDetected, rspRdv := false, rspRdata := 0x00#8,
        rspRs := .default, rspWs := .default, st := .idle })

/-- In every state of the cycle, SETUP to FIN, a tick of the skip row is a tick of the plain row of the same
direction, except at a FINE check that locks (every check that reads LOW does, whatever its poll number), where the
two next states differ in cnt alone: T_WAIT - 1 against T_WAIT_SKIP - 1. (R168.) -/
def Obligations.SkipDiffersOnlyInTheWait : Prop :=
  ∀ (s : State) (b l : Addr) (x : Strat), s.st = .setup ∨ s.st.onBus = true →
    (¬ (s.st = .fine ∧ s.cnt = 0 ∧ s.input.phi0 = false) →
      exec (.rsSyncPhi0Skip b l x) s = exec (.rsSyncPhi0 b l x) s ∧
      exec (.wsSyncPhi0Skip b l x) s = exec (.wsSyncPhi0 b l x) s) ∧
    (s.st = .fine → s.cnt = 0 → s.input.phi0 = false →
      ∃ r w : State, exec (.rsSyncPhi0 b l x) s = .next { r with cnt := s.conf.tWait - 1 } ∧
        exec (.rsSyncPhi0Skip b l x) s = .next { r with cnt := s.conf.tWaitSkip - 1 } ∧
        exec (.wsSyncPhi0 b l x) s = .next { w with cnt := s.conf.tWait - 1 } ∧
        exec (.wsSyncPhi0Skip b l x) s = .next { w with cnt := s.conf.tWaitSkip - 1 })

/-- For every configuration and snapshot: bit i of the result is 1 exactly when the source bit CFG_BITMAP[i] names is
0 with INV = 1, or 1 with INV = 0; so two snapshots that agree on the mapped bits give the same byte, and if every
mapped bit shows d[i] xor INV the result is d. (R161.) -/
def Obligations.ReassemblyRecoversTheByte : Prop :=
  ∀ (c : Config) (p : List Byte),
    (∀ i : Fin 8, (reassemble c p).getLsbD i = true ↔
      (c.bitmap[i].inv = true ∧ portBit p c.bitmap[i] = false) ∨
        (c.bitmap[i].inv = false ∧ portBit p c.bitmap[i] = true)) ∧
    (∀ q, (∀ i : Fin 8, portBit q c.bitmap[i] = portBit p c.bitmap[i]) → reassemble c q = reassemble c p) ∧
    (∀ d : Byte, (∀ i : Fin 8, portBit p c.bitmap[i] = xor (d.getLsbD i) c.bitmap[i].inv) → reassemble c p = d)

/-- For every well-formed configuration, every byte d and every background of NUM_PORTS port bytes there is a snapshot
of as many ports that reassembles to d and differs from the background only in mapped bits; this needs the pairs
(PORT, BIT) to be distinct and below NUM_PORTS. (R108, R161.) -/
def Obligations.BoardCanPresentEveryByte : Prop :=
  ∀ (c : WfConfig) (d : Byte) (bg : List Byte), bg.length = c.val.numPorts →
    ∃ p : List Byte, p.length = c.val.numPorts ∧ reassemble c.val p = d ∧
      ∀ (k : Nat) (j : Nat), k < c.val.numPorts → j < 8 →
        (∀ i : Fin 8, ¬ (c.val.bitmap[i].port.toNat = k ∧ c.val.bitmap[i].bit.toNat = j)) →
        (p.getD k 0#8).getLsbD j = (bg.getD k 0#8).getLsbD j

/-- Changing PORT_IN at a tick changes nothing of the step unless the tick is the last SAMP tick of a read; there it
changes at most scratch, and nothing when the first NUM_PORTS bytes agree. (R59, R79, R160.) -/
def Obligations.PortsReadOnlyAtTheSnapshot : Prop :=
  ∀ (s : State) (p : Vector Byte 4),
    (¬ (s.st = .samp ∧ s.cnt = 0 ∧ s.isWrite = false) →
      step (s.withInput { s.input with ports := p }) = step (s.withInput s.input)) ∧
    (p.toList.take s.conf.numPorts = portSample s.conf s.input →
      step (s.withInput { s.input with ports := p }) = step (s.withInput s.input)) ∧
    (∀ t u, step (s.withInput { s.input with ports := p }) = .next t → step (s.withInput s.input) = .next u →
      u = { t with scratch := u.scratch })

/-- Outside CLOW, CHIGH and FINE, and in them while cnt > 0, the step is the same whatever PHI0_IN is: after fine lock
a dropped phi0 pulse has no effect. (R153, R157.) -/
def Obligations.Phi0ReadOnlyAtPolls : Prop :=
  ∀ (s : State) (b : Bool), ¬ ((s.st = .clow ∨ s.st = .chigh ∨ s.st = .fine) ∧ s.cnt = 0) →
    step (s.withInput { s.input with phi0 := b }) = step (s.withInput s.input)

/-- A step without reset leaves ADDR, DOUT and DIR registers unchanged except at SETUP and at a GEN_DONE tick of GEN;
RW except there and at FIN; only the last WAIT tick raises PHI2 and only the last HIGH tick lowers it, and no abort
leaves from WAIT or HIGH. In particular every IDLE and DISPATCH tick leaves all five unchanged. (R42, R80, R82, R136,
R151, R158, R159, R162, R169.) -/
def Obligations.BusRegistersMoveOnlyInCycles : Prop :=
  ∀ s t : State, s.input.rstN = true → step s = .next t →
    (s.st ≠ .setup → ¬ (s.st = .gen ∧ s.input.genDone = true) →
      t.addrR = s.addrR ∧ t.doutR = s.doutR ∧ t.dirR = s.dirR ∧ (s.st ≠ .fin → t.rwR = s.rwR)) ∧
    (s.phi2R = false → t.phi2R = true → s.st = .wait ∧ s.cnt = 0 ∧ t.st = .high) ∧
    (s.phi2R = true → t.phi2R = false → s.st = .high ∧ s.cnt = 0 ∧ t.st = .samp) ∧
    (s.st = .wait ∨ s.st = .high → t.st ≠ .fin) ∧
    (s.st = .idle ∨ s.st = .dispatch → t.busRegs = s.busRegs)

/-- From a WAIT state with w ticks still to count, with no reset and no GEN_DONE: PHI2 is 1 exactly at the T_HIGH
ticks from w + 1; the snapshot is taken at tick w + 1 + T_HIGH + T_SAMPLE; the engine is in IDLE first at two ticks
after it, with RSP_VALID, Success, RW = 1, and on a read the byte reassembled from the ports of that one tick;
IRQ_INHIBIT is 1 up to and including the snapshot tick and 0 after it; address, direction and data registers never
change. (R158, R159, R160, R161, R162, R163, R166, R167, R266.) -/
def Obligations.PulseTimeline : Prop :=
  ∀ s : State, s.st = .wait → s.phi2R = false → s.finStatus = .success →
    let snap := s.cnt + 1 + s.conf.tHigh + s.conf.tSample
    s.quiet (snap + 2) →
    (∀ k ≤ snap + 2, ∃ t, Runs k s t ∧
      (t.phi2R = true ↔ s.cnt + 1 ≤ k ∧ k < s.cnt + 1 + s.conf.tHigh) ∧
      (t.irqInhibit = true ↔ k ≤ snap) ∧ (t.st = .idle ↔ k = snap + 2) ∧
      t.addrR = s.addrR ∧ t.dirR = s.dirR ∧ t.doutR = s.doutR) ∧
    ∃ t, Runs (snap + 2) s t ∧ t.rwR = true ∧
      t.hasResponse .success
        (if s.isWrite then none else some (reassemble s.conf (portSample s.conf (s.inputAt snap)))) .default .default

/-- In CLOW, CHIGH or FINE at a poll that misses, numbered at least POLL_BUDGET, with a finite budget and no reset for
two ticks: after one tick the engine is in FIN with fin_status NoClockDetected and IRQ_INHIBIT 0; after two it is in
IDLE with RSP = 0x000002 valid and RW = 1, and the other bus registers are as at the poll. (A poll number past
POLL_BUDGET comes only after a hit on the budget's last poll, log 6.) (R153, R164, R165, R230.) -/
def Obligations.PollBudgetAborts : Prop :=
  ∀ s : State, (s.st = .clow ∧ s.input.phi0 = true) ∨ (s.st = .chigh ∧ s.input.phi0 = false) ∨
      (s.st = .fine ∧ s.input.phi0 = true) →
    s.cnt = 0 → s.conf.pollUnbounded = false → s.conf.pollBudget ≤ s.polls + 1 → s.quiet 2 →
    (∃ t, Runs 1 s t ∧ t.st = .fin ∧ t.finStatus = .noClockDetected ∧ t.irqInhibit = false ∧ t.busRegs = s.busRegs) ∧
    ∃ u, Runs 2 s u ∧ u.st = .idle ∧ u.rspValid = true ∧ u.rspWord = 0x000002#24 ∧
      u.busRegs = { s.busRegs with rw := true }

/-- From the first CLOW tick with a finite budget B, for every phi0, with no reset and no GEN_DONE, and M =
max(C_POLL, T_FIRST, T_RULER): the engine comes to WAIT, or to FIN with NoClockDetected, without a PHI2 pulse. It
takes at most B polls and (B - 1) * M + 1 ticks (R164, R268), unless poll B hits in CLOW or CHIGH; that hit wins
(R153) and more polls follow, within (B + 1) * M + 1 ticks (log 6). Poll number n comes at most (n - 1) * M ticks
after the first CLOW tick. (R23, R153, R164, R268.) -/
def Obligations.AcquisitionIsBounded : Prop :=
  ∀ s : State, s.st = .clow → s.cnt = 0 → s.polls = 0 → s.phi2R = false → s.conf.pollUnbounded = false →
    let m := max s.conf.cPoll (max s.conf.tFirst s.conf.tRuler)
    let b := s.conf.pollBudget
    s.quiet ((b + 1) * m + 1) →
    ∃ n t, Runs n s t ∧ (t.st = .wait ∨ (t.st = .fin ∧ t.finStatus = .noClockDetected)) ∧
      (¬ s.coarseHitOnLastPoll n → t.polls ≤ b ∧ n ≤ (b - 1) * m + 1) ∧ t.polls ≤ b + 2 ∧ n ≤ (b + 1) * m + 1 ∧
      (∀ k u v, k < n → Runs k s u → Runs (k + 1) s v → v.polls ≠ u.polls →
        v.polls = u.polls + 1 ∧ k ≤ u.polls * m) ∧
      ∀ k u, k ≤ n → Runs k s u → u.phi2R = false

/-- From the first CLOW tick with a finite budget B and phi0 stuck HIGH or stuck LOW, and no reset or GEN_DONE: the
engine is first in IDLE at tick (B - 1) * C_POLL + 2, with RSP_VALID = 1, RSP = 0x000002 and RW = 1; PHI2 is 0 at
every tick; address, direction and data registers keep what SETUP gave them. Stuck LOW with B = 1 is the exception:
poll 1 hits in CLOW (R153), and the abort comes at the next poll, CHIGH's first, so that IDLE comes at tick C_POLL + 2
(log 6). (R164, R165, R268.) -/
def Obligations.StuckClockIsDetected : Prop :=
  ∀ (s : State) (level : Bool), s.st = .clow → s.cnt = 0 → s.polls = 0 → s.phi2R = false →
    s.conf.pollUnbounded = false →
    let spaces := if level = false ∧ s.conf.pollBudget = 1 then 1 else s.conf.pollBudget - 1
    let n := spaces * s.conf.cPoll + 2
    s.quiet n → (∀ k < n, (s.inputAt k).phi0 = level) →
    (∀ k ≤ n, ∃ t, Runs k s t ∧ t.phi2R = false ∧ (t.st = .idle ↔ k = n) ∧
      t.addrR = s.addrR ∧ t.dirR = s.dirR ∧ t.doutR = s.doutR) ∧
    ∃ t, Runs n s t ∧ t.rspValid = true ∧ t.rspWord = 0x000002#24 ∧ t.rwR = true

/-- Poll returns ABORT for no poll number and no level. From CLOW with phi0 HIGH, CHIGH with phi0 LOW, or FINE with
phi0 HIGH, at every one of n ticks without reset, the engine is in the same state after n ticks, for every n, with
IRQ_INHIBIT = 1. (R180.) -/
def Obligations.UnboundedPollHangs : Prop :=
  ∀ s : State, s.conf.pollUnbounded = true →
    (∀ n hit, pollResult s.conf n hit ≠ .abort) ∧
    ∀ (n : Nat) (level : Bool), (s.st = .clow ∧ level = true) ∨ (s.st = .chigh ∧ level = false) ∨
        (s.st = .fine ∧ level = true) →
      s.quiet n → (∀ k < n, (s.inputAt k).phi0 = level) → ∃ t, Runs n s t ∧ t.st = s.st ∧ t.irqInhibit = true

/-- For every run without reset from SETUP to the first IDLE state: the status is Success or NoClockDetected; on
Success there is one span of exactly T_HIGH consecutive ticks at which PHI2 is 1, and it is 0 at every other tick; on
NoClockDetected it is 0 at every tick. (R78, R164, R169, R211.) -/
def Obligations.OnePulsePerSuccessfulCycle : Prop :=
  ∀ (s t : State) (n : Nat), Inv s → s.st = .setup → Runs n s t → t.st = .idle →
    (∀ k < n, (s.inputAt k).rstN = true) → (∀ k u, k < n → Runs k s u → u.st ≠ .idle) →
    (t.rspStatus = .success ∨ t.rspStatus = .noClockDetected) ∧
    (t.rspStatus = .success → ∃ r, 0 < r ∧ r + s.conf.tHigh ≤ n ∧
      ∀ k u, k ≤ n → Runs k s u → (u.phi2R = true ↔ r ≤ k ∧ k < r + s.conf.tHigh)) ∧
    (t.rspStatus = .noClockDetected → ∀ k u, k ≤ n → Runs k s u → u.phi2R = false)

/-- From two SETUP states that agree on op, addr, wdata, strat and the configuration but for T_DISPATCH (and have PHI2
low), with the same inputs from the next tick on and no reset: as long as the first cycle has not ended, the two runs
agree on state, counters, fin_status and bus registers (the data register on a write), and when they reach IDLE, on
the response. No earlier command, counter, scratch value, tick index or T_DISPATCH matters. (R170, R176.) -/
def Obligations.NoDependenceOnWhatCameBefore : Prop :=
  ∀ (s s' t t' : State) (n : Nat), s.st = .setup → s'.st = .setup → s.op = s'.op → s.addr = s'.addr →
    s.wdata = s'.wdata → s.strat = s'.strat →
    s.conf = { s'.conf with tDispatch := s.conf.tDispatch } → s.phi2R = false → s'.phi2R = false →
    (∀ k, 1 ≤ k → k < n → s.inputAt k = s'.inputAt k) →
    (∀ k < n, (s.inputAt k).rstN = true ∧ (s'.inputAt k).rstN = true) →
    1 ≤ n → Runs n s t → Runs n s' t' → (∀ k u, k < n → Runs k s u → u.st ≠ .idle) →
    t.st = t'.st ∧ t.cnt = t'.cnt ∧ t.polls = t'.polls ∧ t.finStatus = t'.finStatus ∧ t.addrR = t'.addrR ∧
      t.dirR = t'.dirR ∧ t.rwR = t'.rwR ∧ t.phi2R = t'.phi2R ∧ (s.isWrite = true → t.doutR = t'.doutR) ∧
      (t.st = .idle → t.rspValid = t'.rspValid ∧ t.rspWord = t'.rspWord)

/-! ## The timing contract (spec/42_sync_cycle.md section 6; derived, no rule of the engine reads phi0's phase) -/

/-- From the first CLOW tick of a cycle, with phi0 nominal and no reset or GEN_DONE: if the engine is in CHIGH at tick
n and in FINE at tick n + 1 (so n is the coarse lock tick), the phase of tick n is below min(C_POLL, H_PHI0). (R171,
R174.) -/
def Obligations.CoarseLockIsEarlyInTheHighPhase : Prop :=
  ∀ (s t u : State) (p : Phi0) (n : Nat), p.ok → s.st = .clow → s.cnt = 0 → s.nominal p n → s.quiet (n + 1) →
    Runs n s t → t.st = .chigh → Runs (n + 1) s u → u.st = .fine → p.phaseAt n < min s.conf.cPoll p.high

/-- From the FINE state entered one tick after a coarse lock of phase j, with conditions (i) and (ii) of R172: let p0
= (j + T_FIRST) mod T_PHI0 and k = ceil((H_PHI0 - p0) / delta). If phi0 is nominal up to and including check k (it
need not be after it), the budget lets k + 1 more polls happen, and there is no reset or GEN_DONE, then check k (at
T_FIRST - 1 + k * T_RULER ticks) is the fine lock and no earlier tick is; k is at most ceil(H_PHI0 / delta); check i
has the phase p0 + i * delta for every i up to k; after the lock the engine is in WAIT with the strategy's wait
loaded; and the phase of the lock lies in H_PHI0 .. H_PHI0 + delta - 1. (R156, R171, R172.) -/
def Obligations.FineLockWithinOneQuantum : Prop :=
  ∀ (s : State) (p : Phi0) (j delta : Nat), p.ok → s.st = .fine → s.cnt = s.conf.tFirst - 1 →
    j < min s.conf.cPoll p.high → p.phase = (j + 1) % p.period → firstPassShort s.conf p →
    rulerLonger s.conf p delta →
    let p0 := (j + s.conf.tFirst) % p.period
    let k := ceilDiv (p.high - p0) delta
    (s.conf.pollUnbounded = true ∨ s.polls + k + 1 ≤ s.conf.pollBudget) →
    s.nominal p (s.conf.tFirst - 1 + k * s.conf.tRuler) → s.quiet (s.conf.tFirst + k * s.conf.tRuler) →
    p0 < p.high ∧ k ≤ ceilDiv p.high delta ∧
    (∀ i ≤ k, p.phaseAt (s.conf.tFirst - 1 + i * s.conf.tRuler) = p0 + i * delta) ∧
    p.high ≤ p0 + k * delta ∧ p0 + k * delta < p.high + delta ∧
    (∀ n u, n < s.conf.tFirst + k * s.conf.tRuler → Runs n s u → u.st = .fine) ∧
    ∃ t, Runs (s.conf.tFirst + k * s.conf.tRuler) s t ∧ t.st = .wait ∧ t.cnt = waitOf s.conf s.strat - 1 ∧
      (s.conf.pollUnbounded = false → t.polls = s.polls + k + 1)

/-- From the WAIT state entered one tick after a fine lock whose phase f lies in H_PHI0 .. H_PHI0 + delta - 1, with
T_WAIT_SKIP = T_WAIT + T_PHI0, and no reset or GEN_DONE: PHI2 is first 1 at tick W, and the target edge (the first
grid rising edge after the lock for SYNC_PHI0, the second for SYNC_PHI0_SKIP) minus W lies between L_PHI0 - delta -
T_WAIT and L_PHI0 - T_WAIT - 1, the same for both strategies; it is at least 0, so that PHI2 is not late, when T_WAIT
is at most L_PHI0 - delta. (R173, R175.) -/
def Obligations.PulseLandsBeforeItsTargetEdge : Prop :=
  ∀ (s : State) (p : Phi0) (f delta : Nat), p.ok → 1 ≤ delta → delta ≤ p.low → p.high ≤ f → f < p.high + delta →
    s.st = .wait → s.phi2R = false → s.conf.tWaitSkip = s.conf.tWait + p.period →
    s.cnt = waitOf s.conf s.strat - 1 → s.quiet (waitOf s.conf s.strat) →
    let edge : Int := (p.toNextRise f : Int) - 1 + (if s.strat = .syncPhi0Skip then (p.period : Int) else 0)
    let rise : Int := waitOf s.conf s.strat
    (∃ t, Runs (waitOf s.conf s.strat) s t ∧ t.phi2R = true) ∧
      (∀ k u, k < waitOf s.conf s.strat → Runs k s u → u.phi2R = false) ∧
      (p.low : Int) - delta - s.conf.tWait ≤ edge - rise ∧ edge - rise ≤ (p.low : Int) - s.conf.tWait - 1 ∧
      (s.conf.tWait + delta ≤ p.low → 0 ≤ edge - rise)

/-! ## The poll budget over a whole cycle (spec/70_reset_and_hazards.md R268, R269; log 6) -/

/-- From the first CLOW tick with a finite budget B, for every phi0, with no reset and no GEN_DONE, the engine comes
to IDLE with RSP_VALID = 1: after at most B polls, with Success within (B - 1) * M + W + T_HIGH + T_SAMPLE + 3 ticks
or NoClockDetected within (B - 1) * M + 2; where poll B hits in CLOW or CHIGH, so that the hit wins and the cycle
polls on (log 6), within the same bounds with (B + 1) * M. (R23, R153, R164, R268, R269.) -/
def Obligations.BudgetBoundsTheWholeCycle : Prop :=
  ∀ s : State, s.st = .clow → s.cnt = 0 → s.polls = 0 → s.phi2R = false → s.finStatus = .success →
    s.conf.pollUnbounded = false →
    let m := max s.conf.cPoll (max s.conf.tFirst s.conf.tRuler)
    let b := s.conf.pollBudget
    let rest := waitOf s.conf s.strat + s.conf.tHigh + s.conf.tSample + 3
    s.quiet ((b + 1) * m + rest) →
    ∃ n t, Runs n s t ∧ t.st = .idle ∧ t.rspValid = true ∧
      (¬ s.coarseHitOnLastPoll n →
        t.polls ≤ b ∧ ((t.rspStatus = .success ∧ n ≤ (b - 1) * m + rest) ∨
          (t.rspStatus = .noClockDetected ∧ n ≤ (b - 1) * m + 2))) ∧
      t.polls ≤ b + 2 ∧ ((t.rspStatus = .success ∧ n ≤ (b + 1) * m + rest) ∨
        (t.rspStatus = .noClockDetected ∧ n ≤ (b + 1) * m + 2)) ∧
      ∀ k u, k < n → Runs k s u → u.st ≠ .idle
end

