-- ==== Sys2Proof/Laws/Decode.lean ====
section
/-!
SUPPORT. The small lemmas of the encodings: the fields of an assembled command word, and the 2-bit codes.
-/

namespace Sys2Proof

@[simp] theorem Strat.ofBits_toBits (k : Strat) : Strat.ofBits k.toBits = k := by cases k <;> rfl

theorem Strat.toBits_ofBits : ∀ b : BitVec 2, (Strat.ofBits b).toBits = b := by decide

theorem Status.toBits_ne_three (v : Status) : v.toBits ≠ 0b11#2 := by cases v <;> decide

/-- Every bit of an assembled command word (R96). -/
theorem getLsbD_encodeCmd (o : BitVec 2) (a : HostAddr) (d : Byte) (i : Nat) :
    (encodeCmd o a d).getLsbD i =
      if i < 2 then o.getLsbD i else if i < 8 then false else if i < 16 then d.getLsbD (i - 8) else a.getLsbD (i - 16) := by
  have h1 := BitVec.getLsbD_append (x := a ++ d ++ 0#6) (y := o) (i := i)
  have h2 := BitVec.getLsbD_append (x := a ++ d) (y := 0#6) (i := i - 2)
  have h3 := BitVec.getLsbD_append (x := a) (y := d) (i := i - 2 - 6)
  have e2 : i - 2 - 6 = i - 8 := by omega
  have e3 : i - 8 - 8 = i - 16 := by omega
  rw [e2] at h2 h3
  rw [e3] at h3
  refine h1.trans ?_
  rw [h2, h3]
  by_cases c2 : i < 2
  · simp [c2]
  · by_cases c8 : i < 8
    · simp [c2, c8, show i - 2 < 6 by omega]
    · by_cases c16 : i < 16
      · simp [c2, c8, c16, show ¬ i - 2 < 6 by omega, show i - 8 < 8 by omega]
      · simp [c2, c8, c16, show ¬ i - 2 < 6 by omega, show ¬ i - 8 < 8 by omega]

@[simp] theorem cmdOp_encodeCmd (o : BitVec 2) (a : HostAddr) (d : Byte) : cmdOp (encodeCmd o a d) = o := by
  ext i hi
  simp [cmdOp, BitVec.getElem_extractLsb', getLsbD_encodeCmd, hi]

@[simp] theorem cmdRsvd_encodeCmd (o : BitVec 2) (a : HostAddr) (d : Byte) : cmdRsvd (encodeCmd o a d) = 0#6 := by
  ext i hi
  simp [cmdRsvd, BitVec.getElem_extractLsb', getLsbD_encodeCmd, show 2 + i < 8 by omega]

@[simp] theorem cmdWdata_encodeCmd (o : BitVec 2) (a : HostAddr) (d : Byte) : cmdWdata (encodeCmd o a d) = d := by
  ext i hi
  simp [cmdWdata, BitVec.getElem_extractLsb', getLsbD_encodeCmd, show ¬ 8 + i < 2 by omega,
    show 8 + i < 16 by omega, hi]

@[simp] theorem cmdAddrIn_encodeCmd (o : BitVec 2) (a : HostAddr) (d : Byte) : cmdAddrIn (encodeCmd o a d) = a := by
  ext i hi
  simp [cmdAddrIn, BitVec.getElem_extractLsb', getLsbD_encodeCmd, show ¬ 16 + i < 2 by omega,
    show ¬ 16 + i < 8 by omega, hi]

/-- CMD[7:0] of an assembled command word is OP with RSVD = 0 (R96, R98). -/
theorem low_encodeCmd (o : BitVec 2) (a : HostAddr) (d : Byte) : (encodeCmd o a d).extractLsb' 0 8 = o.setWidth 8 := by
  ext i hi
  simp only [BitVec.getElem_extractLsb', getLsbD_encodeCmd, BitVec.getElem_setWidth, Nat.zero_add, hi, if_true]
  split
  · rfl
  · exact (BitVec.getLsbD_of_ge _ _ (by omega)).symm

/-- Every bit of a table entry's word (R102). -/
theorem getLsbD_entryWord (e : Entry) (i : Nat) :
    e.toWord.getLsbD i =
      if i < 16 then e.start.getLsbD i else if i < 32 then e.length.getLsbD (i - 16)
      else if i < 34 then e.rs.toBits.getLsbD (i - 32) else e.ws.toBits.getLsbD (i - 34) := by
  have h1 := BitVec.getLsbD_append (x := e.ws.toBits ++ e.rs.toBits ++ e.length) (y := e.start) (i := i)
  have h2 := BitVec.getLsbD_append (x := e.ws.toBits ++ e.rs.toBits) (y := e.length) (i := i - 16)
  have h3 := BitVec.getLsbD_append (x := e.ws.toBits) (y := e.rs.toBits) (i := i - 16 - 16)
  have e2 : i - 16 - 16 = i - 32 := by omega
  have e3 : i - 32 - 2 = i - 34 := by omega
  rw [e2] at h2 h3
  rw [e3] at h3
  refine h1.trans ?_
  rw [h2, h3]
  by_cases c16 : i < 16
  · simp [c16]
  · by_cases c32 : i < 32
    · simp [c16, c32, show i - 16 < 16 by omega]
    · by_cases c34 : i < 34
      · simp [c16, c32, c34, show ¬ i - 16 < 16 by omega, show i - 32 < 2 by omega]
      · simp [c16, c32, c34, show ¬ i - 16 < 16 by omega, show ¬ i - 32 < 2 by omega]

/-- ENTRY[33:32] is the read code (R102). -/
theorem rs_entryWord (e : Entry) : e.toWord.extractLsb' 32 2 = e.rs.toBits := by
  ext i hi
  simp [BitVec.getElem_extractLsb', getLsbD_entryWord, show ¬ 32 + i < 16 by omega, show ¬ 32 + i < 32 by omega,
    show 32 + i < 34 by omega, hi]

/-- ENTRY[35:34] is the write code (R102). -/
theorem ws_entryWord (e : Entry) : e.toWord.extractLsb' 34 2 = e.ws.toBits := by
  ext i hi
  simp [BitVec.getElem_extractLsb', getLsbD_entryWord, show ¬ 34 + i < 16 by omega, show ¬ 34 + i < 32 by omega,
    show ¬ 34 + i < 34 by omega, hi]

end Sys2Proof
end

