-- ==== Sys2Proof/Laws/State.lean ====
section
/-!
SUPPORT. What each record update does to each field of the state: one lemma per field per update, so that no later proof
unfolds an update.
-/

namespace Sys2Proof.Machine

/-! ## `State.clearValid`: `rsp_valid <- 0` (R215) -/

@[simp] theorem State.clearValid_st (s : State) : (State.clearValid s).st = s.st := rfl
@[simp] theorem State.clearValid_op (s : State) : (State.clearValid s).op = s.op := rfl
@[simp] theorem State.clearValid_rsvdNz (s : State) : (State.clearValid s).rsvdNz = s.rsvdNz := rfl
@[simp] theorem State.clearValid_addr (s : State) : (State.clearValid s).addr = s.addr := rfl
@[simp] theorem State.clearValid_wdata (s : State) : (State.clearValid s).wdata = s.wdata := rfl
@[simp] theorem State.clearValid_strat (s : State) : (State.clearValid s).strat = s.strat := rfl
@[simp] theorem State.clearValid_cnt (s : State) : (State.clearValid s).cnt = s.cnt := rfl
@[simp] theorem State.clearValid_polls (s : State) : (State.clearValid s).polls = s.polls := rfl
@[simp] theorem State.clearValid_scratch (s : State) : (State.clearValid s).scratch = s.scratch := rfl
@[simp] theorem State.clearValid_finStatus (s : State) : (State.clearValid s).finStatus = s.finStatus := rfl
@[simp] theorem State.clearValid_addrR (s : State) : (State.clearValid s).addrR = s.addrR := rfl
@[simp] theorem State.clearValid_doutR (s : State) : (State.clearValid s).doutR = s.doutR := rfl
@[simp] theorem State.clearValid_dirR (s : State) : (State.clearValid s).dirR = s.dirR := rfl
@[simp] theorem State.clearValid_rwR (s : State) : (State.clearValid s).rwR = s.rwR := rfl
@[simp] theorem State.clearValid_phi2R (s : State) : (State.clearValid s).phi2R = s.phi2R := rfl
@[simp] theorem State.clearValid_rspValid (s : State) : (State.clearValid s).rspValid = false := rfl
@[simp] theorem State.clearValid_rspStatus (s : State) : (State.clearValid s).rspStatus = s.rspStatus := rfl
@[simp] theorem State.clearValid_rspRdv (s : State) : (State.clearValid s).rspRdv = s.rspRdv := rfl
@[simp] theorem State.clearValid_rspRdata (s : State) : (State.clearValid s).rspRdata = s.rspRdata := rfl
@[simp] theorem State.clearValid_rspRs (s : State) : (State.clearValid s).rspRs = s.rspRs := rfl
@[simp] theorem State.clearValid_rspWs (s : State) : (State.clearValid s).rspWs = s.rspWs := rfl
@[simp] theorem State.clearValid_cfg (s : State) : (State.clearValid s).cfg = s.cfg := rfl
@[simp] theorem State.clearValid_inputs (s : State) : (State.clearValid s).inputs = s.inputs := rfl
@[simp] theorem State.clearValid_tick (s : State) : (State.clearValid s).tick = s.tick := rfl
@[simp] theorem State.clearValid_genFirst (s : State) : (State.clearValid s).genFirst = s.genFirst := rfl
@[simp] theorem State.clearValid_conf (s : State) : (State.clearValid s).conf = s.conf := rfl
@[simp] theorem State.clearValid_input (s : State) : (State.clearValid s).input = s.input := rfl
@[simp] theorem State.clearValid_inputAt (s : State) (k : Nat) : (State.clearValid s).inputAt k = s.inputAt k := rfl
@[simp] theorem State.clearValid_isWrite (s : State) : (State.clearValid s).isWrite = s.isWrite := rfl
@[simp] theorem State.clearValid_selected (w : Bool) (s : State) : (State.clearValid s).selected w = s.selected w := rfl

/-! ## `State.respond`: `Respond` (R214) -/

@[simp] theorem State.respond_st (v : Status) (rd : Option Byte) (rs ws : Strat) (s : State) : (State.respond v rd rs ws s).st = s.st := rfl
@[simp] theorem State.respond_op (v : Status) (rd : Option Byte) (rs ws : Strat) (s : State) : (State.respond v rd rs ws s).op = s.op := rfl
@[simp] theorem State.respond_rsvdNz (v : Status) (rd : Option Byte) (rs ws : Strat) (s : State) : (State.respond v rd rs ws s).rsvdNz = s.rsvdNz := rfl
@[simp] theorem State.respond_addr (v : Status) (rd : Option Byte) (rs ws : Strat) (s : State) : (State.respond v rd rs ws s).addr = s.addr := rfl
@[simp] theorem State.respond_wdata (v : Status) (rd : Option Byte) (rs ws : Strat) (s : State) : (State.respond v rd rs ws s).wdata = s.wdata := rfl
@[simp] theorem State.respond_strat (v : Status) (rd : Option Byte) (rs ws : Strat) (s : State) : (State.respond v rd rs ws s).strat = s.strat := rfl
@[simp] theorem State.respond_cnt (v : Status) (rd : Option Byte) (rs ws : Strat) (s : State) : (State.respond v rd rs ws s).cnt = s.cnt := rfl
@[simp] theorem State.respond_polls (v : Status) (rd : Option Byte) (rs ws : Strat) (s : State) : (State.respond v rd rs ws s).polls = s.polls := rfl
@[simp] theorem State.respond_scratch (v : Status) (rd : Option Byte) (rs ws : Strat) (s : State) : (State.respond v rd rs ws s).scratch = s.scratch := rfl
@[simp] theorem State.respond_finStatus (v : Status) (rd : Option Byte) (rs ws : Strat) (s : State) : (State.respond v rd rs ws s).finStatus = s.finStatus := rfl
@[simp] theorem State.respond_addrR (v : Status) (rd : Option Byte) (rs ws : Strat) (s : State) : (State.respond v rd rs ws s).addrR = s.addrR := rfl
@[simp] theorem State.respond_doutR (v : Status) (rd : Option Byte) (rs ws : Strat) (s : State) : (State.respond v rd rs ws s).doutR = s.doutR := rfl
@[simp] theorem State.respond_dirR (v : Status) (rd : Option Byte) (rs ws : Strat) (s : State) : (State.respond v rd rs ws s).dirR = s.dirR := rfl
@[simp] theorem State.respond_rwR (v : Status) (rd : Option Byte) (rs ws : Strat) (s : State) : (State.respond v rd rs ws s).rwR = s.rwR := rfl
@[simp] theorem State.respond_phi2R (v : Status) (rd : Option Byte) (rs ws : Strat) (s : State) : (State.respond v rd rs ws s).phi2R = s.phi2R := rfl
@[simp] theorem State.respond_rspValid (v : Status) (rd : Option Byte) (rs ws : Strat) (s : State) : (State.respond v rd rs ws s).rspValid = true := rfl
@[simp] theorem State.respond_rspStatus (v : Status) (rd : Option Byte) (rs ws : Strat) (s : State) : (State.respond v rd rs ws s).rspStatus = v := rfl
@[simp] theorem State.respond_rspRdv (v : Status) (rd : Option Byte) (rs ws : Strat) (s : State) : (State.respond v rd rs ws s).rspRdv = rd.isSome := rfl
@[simp] theorem State.respond_rspRdata (v : Status) (rd : Option Byte) (rs ws : Strat) (s : State) : (State.respond v rd rs ws s).rspRdata = rd.getD 0x00#8 := rfl
@[simp] theorem State.respond_rspRs (v : Status) (rd : Option Byte) (rs ws : Strat) (s : State) : (State.respond v rd rs ws s).rspRs = rs := rfl
@[simp] theorem State.respond_rspWs (v : Status) (rd : Option Byte) (rs ws : Strat) (s : State) : (State.respond v rd rs ws s).rspWs = ws := rfl
@[simp] theorem State.respond_cfg (v : Status) (rd : Option Byte) (rs ws : Strat) (s : State) : (State.respond v rd rs ws s).cfg = s.cfg := rfl
@[simp] theorem State.respond_inputs (v : Status) (rd : Option Byte) (rs ws : Strat) (s : State) : (State.respond v rd rs ws s).inputs = s.inputs := rfl
@[simp] theorem State.respond_tick (v : Status) (rd : Option Byte) (rs ws : Strat) (s : State) : (State.respond v rd rs ws s).tick = s.tick := rfl
@[simp] theorem State.respond_genFirst (v : Status) (rd : Option Byte) (rs ws : Strat) (s : State) : (State.respond v rd rs ws s).genFirst = s.genFirst := rfl
@[simp] theorem State.respond_conf (v : Status) (rd : Option Byte) (rs ws : Strat) (s : State) : (State.respond v rd rs ws s).conf = s.conf := rfl
@[simp] theorem State.respond_input (v : Status) (rd : Option Byte) (rs ws : Strat) (s : State) : (State.respond v rd rs ws s).input = s.input := rfl
@[simp] theorem State.respond_inputAt (v : Status) (rd : Option Byte) (rs ws : Strat) (s : State) (k : Nat) : (State.respond v rd rs ws s).inputAt k = s.inputAt k := rfl
@[simp] theorem State.respond_isWrite (v : Status) (rd : Option Byte) (rs ws : Strat) (s : State) : (State.respond v rd rs ws s).isWrite = s.isWrite := rfl
@[simp] theorem State.respond_selected (v : Status) (rd : Option Byte) (rs ws : Strat) (w : Bool) (s : State) : (State.respond v rd rs ws s).selected w = s.selected w := rfl

/-! ## `State.finish`: `Respond` with `st <- IDLE` (R214) -/

@[simp] theorem State.finish_st (v : Status) (rd : Option Byte) (rs ws : Strat) (s : State) : (State.finish v rd rs ws s).st = .idle := rfl
@[simp] theorem State.finish_op (v : Status) (rd : Option Byte) (rs ws : Strat) (s : State) : (State.finish v rd rs ws s).op = s.op := rfl
@[simp] theorem State.finish_rsvdNz (v : Status) (rd : Option Byte) (rs ws : Strat) (s : State) : (State.finish v rd rs ws s).rsvdNz = s.rsvdNz := rfl
@[simp] theorem State.finish_addr (v : Status) (rd : Option Byte) (rs ws : Strat) (s : State) : (State.finish v rd rs ws s).addr = s.addr := rfl
@[simp] theorem State.finish_wdata (v : Status) (rd : Option Byte) (rs ws : Strat) (s : State) : (State.finish v rd rs ws s).wdata = s.wdata := rfl
@[simp] theorem State.finish_strat (v : Status) (rd : Option Byte) (rs ws : Strat) (s : State) : (State.finish v rd rs ws s).strat = s.strat := rfl
@[simp] theorem State.finish_cnt (v : Status) (rd : Option Byte) (rs ws : Strat) (s : State) : (State.finish v rd rs ws s).cnt = s.cnt := rfl
@[simp] theorem State.finish_polls (v : Status) (rd : Option Byte) (rs ws : Strat) (s : State) : (State.finish v rd rs ws s).polls = s.polls := rfl
@[simp] theorem State.finish_scratch (v : Status) (rd : Option Byte) (rs ws : Strat) (s : State) : (State.finish v rd rs ws s).scratch = s.scratch := rfl
@[simp] theorem State.finish_finStatus (v : Status) (rd : Option Byte) (rs ws : Strat) (s : State) : (State.finish v rd rs ws s).finStatus = s.finStatus := rfl
@[simp] theorem State.finish_addrR (v : Status) (rd : Option Byte) (rs ws : Strat) (s : State) : (State.finish v rd rs ws s).addrR = s.addrR := rfl
@[simp] theorem State.finish_doutR (v : Status) (rd : Option Byte) (rs ws : Strat) (s : State) : (State.finish v rd rs ws s).doutR = s.doutR := rfl
@[simp] theorem State.finish_dirR (v : Status) (rd : Option Byte) (rs ws : Strat) (s : State) : (State.finish v rd rs ws s).dirR = s.dirR := rfl
@[simp] theorem State.finish_rwR (v : Status) (rd : Option Byte) (rs ws : Strat) (s : State) : (State.finish v rd rs ws s).rwR = s.rwR := rfl
@[simp] theorem State.finish_phi2R (v : Status) (rd : Option Byte) (rs ws : Strat) (s : State) : (State.finish v rd rs ws s).phi2R = s.phi2R := rfl
@[simp] theorem State.finish_rspValid (v : Status) (rd : Option Byte) (rs ws : Strat) (s : State) : (State.finish v rd rs ws s).rspValid = true := rfl
@[simp] theorem State.finish_rspStatus (v : Status) (rd : Option Byte) (rs ws : Strat) (s : State) : (State.finish v rd rs ws s).rspStatus = v := rfl
@[simp] theorem State.finish_rspRdv (v : Status) (rd : Option Byte) (rs ws : Strat) (s : State) : (State.finish v rd rs ws s).rspRdv = rd.isSome := rfl
@[simp] theorem State.finish_rspRdata (v : Status) (rd : Option Byte) (rs ws : Strat) (s : State) : (State.finish v rd rs ws s).rspRdata = rd.getD 0x00#8 := rfl
@[simp] theorem State.finish_rspRs (v : Status) (rd : Option Byte) (rs ws : Strat) (s : State) : (State.finish v rd rs ws s).rspRs = rs := rfl
@[simp] theorem State.finish_rspWs (v : Status) (rd : Option Byte) (rs ws : Strat) (s : State) : (State.finish v rd rs ws s).rspWs = ws := rfl
@[simp] theorem State.finish_cfg (v : Status) (rd : Option Byte) (rs ws : Strat) (s : State) : (State.finish v rd rs ws s).cfg = s.cfg := rfl
@[simp] theorem State.finish_inputs (v : Status) (rd : Option Byte) (rs ws : Strat) (s : State) : (State.finish v rd rs ws s).inputs = s.inputs := rfl
@[simp] theorem State.finish_tick (v : Status) (rd : Option Byte) (rs ws : Strat) (s : State) : (State.finish v rd rs ws s).tick = s.tick := rfl
@[simp] theorem State.finish_genFirst (v : Status) (rd : Option Byte) (rs ws : Strat) (s : State) : (State.finish v rd rs ws s).genFirst = s.genFirst := rfl
@[simp] theorem State.finish_conf (v : Status) (rd : Option Byte) (rs ws : Strat) (s : State) : (State.finish v rd rs ws s).conf = s.conf := rfl
@[simp] theorem State.finish_input (v : Status) (rd : Option Byte) (rs ws : Strat) (s : State) : (State.finish v rd rs ws s).input = s.input := rfl
@[simp] theorem State.finish_inputAt (v : Status) (rd : Option Byte) (rs ws : Strat) (s : State) (k : Nat) : (State.finish v rd rs ws s).inputAt k = s.inputAt k := rfl
@[simp] theorem State.finish_isWrite (v : Status) (rd : Option Byte) (rs ws : Strat) (s : State) : (State.finish v rd rs ws s).isWrite = s.isWrite := rfl
@[simp] theorem State.finish_selected (v : Status) (rd : Option Byte) (rs ws : Strat) (w : Bool) (s : State) : (State.finish v rd rs ws s).selected w = s.selected w := rfl

/-! ## `State.raiseNotImplemented`: `raise NotImplemented()` (R229) -/

@[simp] theorem State.raiseNotImplemented_st (s : State) : (State.raiseNotImplemented s).st = .idle := rfl
@[simp] theorem State.raiseNotImplemented_op (s : State) : (State.raiseNotImplemented s).op = s.op := rfl
@[simp] theorem State.raiseNotImplemented_rsvdNz (s : State) : (State.raiseNotImplemented s).rsvdNz = s.rsvdNz := rfl
@[simp] theorem State.raiseNotImplemented_addr (s : State) : (State.raiseNotImplemented s).addr = s.addr := rfl
@[simp] theorem State.raiseNotImplemented_wdata (s : State) : (State.raiseNotImplemented s).wdata = s.wdata := rfl
@[simp] theorem State.raiseNotImplemented_strat (s : State) : (State.raiseNotImplemented s).strat = s.strat := rfl
@[simp] theorem State.raiseNotImplemented_cnt (s : State) : (State.raiseNotImplemented s).cnt = s.cnt := rfl
@[simp] theorem State.raiseNotImplemented_polls (s : State) : (State.raiseNotImplemented s).polls = s.polls := rfl
@[simp] theorem State.raiseNotImplemented_scratch (s : State) : (State.raiseNotImplemented s).scratch = s.scratch := rfl
@[simp] theorem State.raiseNotImplemented_finStatus (s : State) : (State.raiseNotImplemented s).finStatus = s.finStatus := rfl
@[simp] theorem State.raiseNotImplemented_addrR (s : State) : (State.raiseNotImplemented s).addrR = s.addrR := rfl
@[simp] theorem State.raiseNotImplemented_doutR (s : State) : (State.raiseNotImplemented s).doutR = s.doutR := rfl
@[simp] theorem State.raiseNotImplemented_dirR (s : State) : (State.raiseNotImplemented s).dirR = s.dirR := rfl
@[simp] theorem State.raiseNotImplemented_rwR (s : State) : (State.raiseNotImplemented s).rwR = s.rwR := rfl
@[simp] theorem State.raiseNotImplemented_phi2R (s : State) : (State.raiseNotImplemented s).phi2R = s.phi2R := rfl
@[simp] theorem State.raiseNotImplemented_rspValid (s : State) : (State.raiseNotImplemented s).rspValid = true := rfl
@[simp] theorem State.raiseNotImplemented_rspStatus (s : State) : (State.raiseNotImplemented s).rspStatus = .notImplemented := rfl
@[simp] theorem State.raiseNotImplemented_rspRdv (s : State) : (State.raiseNotImplemented s).rspRdv = false := rfl
@[simp] theorem State.raiseNotImplemented_rspRdata (s : State) : (State.raiseNotImplemented s).rspRdata = 0x00#8 := rfl
@[simp] theorem State.raiseNotImplemented_rspRs (s : State) : (State.raiseNotImplemented s).rspRs = .default := rfl
@[simp] theorem State.raiseNotImplemented_rspWs (s : State) : (State.raiseNotImplemented s).rspWs = .default := rfl
@[simp] theorem State.raiseNotImplemented_cfg (s : State) : (State.raiseNotImplemented s).cfg = s.cfg := rfl
@[simp] theorem State.raiseNotImplemented_inputs (s : State) : (State.raiseNotImplemented s).inputs = s.inputs := rfl
@[simp] theorem State.raiseNotImplemented_tick (s : State) : (State.raiseNotImplemented s).tick = s.tick := rfl
@[simp] theorem State.raiseNotImplemented_genFirst (s : State) : (State.raiseNotImplemented s).genFirst = s.genFirst := rfl
@[simp] theorem State.raiseNotImplemented_conf (s : State) : (State.raiseNotImplemented s).conf = s.conf := rfl
@[simp] theorem State.raiseNotImplemented_input (s : State) : (State.raiseNotImplemented s).input = s.input := rfl
@[simp] theorem State.raiseNotImplemented_inputAt (s : State) (k : Nat) : (State.raiseNotImplemented s).inputAt k = s.inputAt k := rfl
@[simp] theorem State.raiseNotImplemented_isWrite (s : State) : (State.raiseNotImplemented s).isWrite = s.isWrite := rfl
@[simp] theorem State.raiseNotImplemented_selected (w : Bool) (s : State) : (State.raiseNotImplemented s).selected w = s.selected w := rfl

/-! ## `State.raiseNoClockDetected`: `raise NoClockDetected()` (R230) -/

@[simp] theorem State.raiseNoClockDetected_st (s : State) : (State.raiseNoClockDetected s).st = .fin := rfl
@[simp] theorem State.raiseNoClockDetected_op (s : State) : (State.raiseNoClockDetected s).op = s.op := rfl
@[simp] theorem State.raiseNoClockDetected_rsvdNz (s : State) : (State.raiseNoClockDetected s).rsvdNz = s.rsvdNz := rfl
@[simp] theorem State.raiseNoClockDetected_addr (s : State) : (State.raiseNoClockDetected s).addr = s.addr := rfl
@[simp] theorem State.raiseNoClockDetected_wdata (s : State) : (State.raiseNoClockDetected s).wdata = s.wdata := rfl
@[simp] theorem State.raiseNoClockDetected_strat (s : State) : (State.raiseNoClockDetected s).strat = s.strat := rfl
@[simp] theorem State.raiseNoClockDetected_cnt (s : State) : (State.raiseNoClockDetected s).cnt = s.cnt := rfl
@[simp] theorem State.raiseNoClockDetected_polls (s : State) : (State.raiseNoClockDetected s).polls = s.polls := rfl
@[simp] theorem State.raiseNoClockDetected_scratch (s : State) : (State.raiseNoClockDetected s).scratch = s.scratch := rfl
@[simp] theorem State.raiseNoClockDetected_finStatus (s : State) : (State.raiseNoClockDetected s).finStatus = .noClockDetected := rfl
@[simp] theorem State.raiseNoClockDetected_addrR (s : State) : (State.raiseNoClockDetected s).addrR = s.addrR := rfl
@[simp] theorem State.raiseNoClockDetected_doutR (s : State) : (State.raiseNoClockDetected s).doutR = s.doutR := rfl
@[simp] theorem State.raiseNoClockDetected_dirR (s : State) : (State.raiseNoClockDetected s).dirR = s.dirR := rfl
@[simp] theorem State.raiseNoClockDetected_rwR (s : State) : (State.raiseNoClockDetected s).rwR = s.rwR := rfl
@[simp] theorem State.raiseNoClockDetected_phi2R (s : State) : (State.raiseNoClockDetected s).phi2R = s.phi2R := rfl
@[simp] theorem State.raiseNoClockDetected_rspValid (s : State) : (State.raiseNoClockDetected s).rspValid = s.rspValid := rfl
@[simp] theorem State.raiseNoClockDetected_rspStatus (s : State) : (State.raiseNoClockDetected s).rspStatus = s.rspStatus := rfl
@[simp] theorem State.raiseNoClockDetected_rspRdv (s : State) : (State.raiseNoClockDetected s).rspRdv = s.rspRdv := rfl
@[simp] theorem State.raiseNoClockDetected_rspRdata (s : State) : (State.raiseNoClockDetected s).rspRdata = s.rspRdata := rfl
@[simp] theorem State.raiseNoClockDetected_rspRs (s : State) : (State.raiseNoClockDetected s).rspRs = s.rspRs := rfl
@[simp] theorem State.raiseNoClockDetected_rspWs (s : State) : (State.raiseNoClockDetected s).rspWs = s.rspWs := rfl
@[simp] theorem State.raiseNoClockDetected_cfg (s : State) : (State.raiseNoClockDetected s).cfg = s.cfg := rfl
@[simp] theorem State.raiseNoClockDetected_inputs (s : State) : (State.raiseNoClockDetected s).inputs = s.inputs := rfl
@[simp] theorem State.raiseNoClockDetected_tick (s : State) : (State.raiseNoClockDetected s).tick = s.tick := rfl
@[simp] theorem State.raiseNoClockDetected_genFirst (s : State) : (State.raiseNoClockDetected s).genFirst = s.genFirst := rfl
@[simp] theorem State.raiseNoClockDetected_conf (s : State) : (State.raiseNoClockDetected s).conf = s.conf := rfl
@[simp] theorem State.raiseNoClockDetected_input (s : State) : (State.raiseNoClockDetected s).input = s.input := rfl
@[simp] theorem State.raiseNoClockDetected_inputAt (s : State) (k : Nat) : (State.raiseNoClockDetected s).inputAt k = s.inputAt k := rfl
@[simp] theorem State.raiseNoClockDetected_isWrite (s : State) : (State.raiseNoClockDetected s).isWrite = s.isWrite := rfl
@[simp] theorem State.raiseNoClockDetected_selected (w : Bool) (s : State) : (State.raiseNoClockDetected s).selected w = s.selected w := rfl

/-! ## `State.count`: `cnt <- cnt - 1` (R38) -/

@[simp] theorem State.count_st (s : State) : (State.count s).st = s.st := rfl
@[simp] theorem State.count_op (s : State) : (State.count s).op = s.op := rfl
@[simp] theorem State.count_rsvdNz (s : State) : (State.count s).rsvdNz = s.rsvdNz := rfl
@[simp] theorem State.count_addr (s : State) : (State.count s).addr = s.addr := rfl
@[simp] theorem State.count_wdata (s : State) : (State.count s).wdata = s.wdata := rfl
@[simp] theorem State.count_strat (s : State) : (State.count s).strat = s.strat := rfl
@[simp] theorem State.count_cnt (s : State) : (State.count s).cnt = s.cnt - 1 := rfl
@[simp] theorem State.count_polls (s : State) : (State.count s).polls = s.polls := rfl
@[simp] theorem State.count_scratch (s : State) : (State.count s).scratch = s.scratch := rfl
@[simp] theorem State.count_finStatus (s : State) : (State.count s).finStatus = s.finStatus := rfl
@[simp] theorem State.count_addrR (s : State) : (State.count s).addrR = s.addrR := rfl
@[simp] theorem State.count_doutR (s : State) : (State.count s).doutR = s.doutR := rfl
@[simp] theorem State.count_dirR (s : State) : (State.count s).dirR = s.dirR := rfl
@[simp] theorem State.count_rwR (s : State) : (State.count s).rwR = s.rwR := rfl
@[simp] theorem State.count_phi2R (s : State) : (State.count s).phi2R = s.phi2R := rfl
@[simp] theorem State.count_rspValid (s : State) : (State.count s).rspValid = s.rspValid := rfl
@[simp] theorem State.count_rspStatus (s : State) : (State.count s).rspStatus = s.rspStatus := rfl
@[simp] theorem State.count_rspRdv (s : State) : (State.count s).rspRdv = s.rspRdv := rfl
@[simp] theorem State.count_rspRdata (s : State) : (State.count s).rspRdata = s.rspRdata := rfl
@[simp] theorem State.count_rspRs (s : State) : (State.count s).rspRs = s.rspRs := rfl
@[simp] theorem State.count_rspWs (s : State) : (State.count s).rspWs = s.rspWs := rfl
@[simp] theorem State.count_cfg (s : State) : (State.count s).cfg = s.cfg := rfl
@[simp] theorem State.count_inputs (s : State) : (State.count s).inputs = s.inputs := rfl
@[simp] theorem State.count_tick (s : State) : (State.count s).tick = s.tick := rfl
@[simp] theorem State.count_genFirst (s : State) : (State.count s).genFirst = s.genFirst := rfl
@[simp] theorem State.count_conf (s : State) : (State.count s).conf = s.conf := rfl
@[simp] theorem State.count_input (s : State) : (State.count s).input = s.input := rfl
@[simp] theorem State.count_inputAt (s : State) (k : Nat) : (State.count s).inputAt k = s.inputAt k := rfl
@[simp] theorem State.count_isWrite (s : State) : (State.count s).isWrite = s.isWrite := rfl
@[simp] theorem State.count_selected (w : Bool) (s : State) : (State.count s).selected w = s.selected w := rfl

/-! ## `State.countPoll`: `polls <- polls + 1` (R153) -/

@[simp] theorem State.countPoll_st (s : State) : (State.countPoll s).st = s.st := rfl
@[simp] theorem State.countPoll_op (s : State) : (State.countPoll s).op = s.op := rfl
@[simp] theorem State.countPoll_rsvdNz (s : State) : (State.countPoll s).rsvdNz = s.rsvdNz := rfl
@[simp] theorem State.countPoll_addr (s : State) : (State.countPoll s).addr = s.addr := rfl
@[simp] theorem State.countPoll_wdata (s : State) : (State.countPoll s).wdata = s.wdata := rfl
@[simp] theorem State.countPoll_strat (s : State) : (State.countPoll s).strat = s.strat := rfl
@[simp] theorem State.countPoll_cnt (s : State) : (State.countPoll s).cnt = s.cnt := rfl
@[simp] theorem State.countPoll_polls (s : State) : (State.countPoll s).polls =
    if s.conf.pollUnbounded then (s.polls + 1) % 2 ^ pollW s.conf else min (s.polls + 1) (2 ^ pollW s.conf - 1) := rfl
@[simp] theorem State.countPoll_scratch (s : State) : (State.countPoll s).scratch = s.scratch := rfl
@[simp] theorem State.countPoll_finStatus (s : State) : (State.countPoll s).finStatus = s.finStatus := rfl
@[simp] theorem State.countPoll_addrR (s : State) : (State.countPoll s).addrR = s.addrR := rfl
@[simp] theorem State.countPoll_doutR (s : State) : (State.countPoll s).doutR = s.doutR := rfl
@[simp] theorem State.countPoll_dirR (s : State) : (State.countPoll s).dirR = s.dirR := rfl
@[simp] theorem State.countPoll_rwR (s : State) : (State.countPoll s).rwR = s.rwR := rfl
@[simp] theorem State.countPoll_phi2R (s : State) : (State.countPoll s).phi2R = s.phi2R := rfl
@[simp] theorem State.countPoll_rspValid (s : State) : (State.countPoll s).rspValid = s.rspValid := rfl
@[simp] theorem State.countPoll_rspStatus (s : State) : (State.countPoll s).rspStatus = s.rspStatus := rfl
@[simp] theorem State.countPoll_rspRdv (s : State) : (State.countPoll s).rspRdv = s.rspRdv := rfl
@[simp] theorem State.countPoll_rspRdata (s : State) : (State.countPoll s).rspRdata = s.rspRdata := rfl
@[simp] theorem State.countPoll_rspRs (s : State) : (State.countPoll s).rspRs = s.rspRs := rfl
@[simp] theorem State.countPoll_rspWs (s : State) : (State.countPoll s).rspWs = s.rspWs := rfl
@[simp] theorem State.countPoll_cfg (s : State) : (State.countPoll s).cfg = s.cfg := rfl
@[simp] theorem State.countPoll_inputs (s : State) : (State.countPoll s).inputs = s.inputs := rfl
@[simp] theorem State.countPoll_tick (s : State) : (State.countPoll s).tick = s.tick := rfl
@[simp] theorem State.countPoll_genFirst (s : State) : (State.countPoll s).genFirst = s.genFirst := rfl
@[simp] theorem State.countPoll_conf (s : State) : (State.countPoll s).conf = s.conf := rfl
@[simp] theorem State.countPoll_input (s : State) : (State.countPoll s).input = s.input := rfl
@[simp] theorem State.countPoll_inputAt (s : State) (k : Nat) : (State.countPoll s).inputAt k = s.inputAt k := rfl
@[simp] theorem State.countPoll_isWrite (s : State) : (State.countPoll s).isWrite = s.isWrite := rfl
@[simp] theorem State.countPoll_selected (w : Bool) (s : State) : (State.countPoll s).selected w = s.selected w := rfl

/-! ## `State.latch`: the command latch (R200) -/

@[simp] theorem State.latch_st (o : BitVec 2) (z : Bool) (a : Addr) (d : Byte) (s : State) : (State.latch o z a d s).st = .dispatch := rfl
@[simp] theorem State.latch_op (o : BitVec 2) (z : Bool) (a : Addr) (d : Byte) (s : State) : (State.latch o z a d s).op = o := rfl
@[simp] theorem State.latch_rsvdNz (o : BitVec 2) (z : Bool) (a : Addr) (d : Byte) (s : State) : (State.latch o z a d s).rsvdNz = z := rfl
@[simp] theorem State.latch_addr (o : BitVec 2) (z : Bool) (a : Addr) (d : Byte) (s : State) : (State.latch o z a d s).addr = a := rfl
@[simp] theorem State.latch_wdata (o : BitVec 2) (z : Bool) (a : Addr) (d : Byte) (s : State) : (State.latch o z a d s).wdata = d := rfl
@[simp] theorem State.latch_strat (o : BitVec 2) (z : Bool) (a : Addr) (d : Byte) (s : State) : (State.latch o z a d s).strat = s.strat := rfl
@[simp] theorem State.latch_cnt (o : BitVec 2) (z : Bool) (a : Addr) (d : Byte) (s : State) : (State.latch o z a d s).cnt = s.conf.tDispatch - 1 := rfl
@[simp] theorem State.latch_polls (o : BitVec 2) (z : Bool) (a : Addr) (d : Byte) (s : State) : (State.latch o z a d s).polls = s.polls := rfl
@[simp] theorem State.latch_scratch (o : BitVec 2) (z : Bool) (a : Addr) (d : Byte) (s : State) : (State.latch o z a d s).scratch = s.scratch := rfl
@[simp] theorem State.latch_finStatus (o : BitVec 2) (z : Bool) (a : Addr) (d : Byte) (s : State) : (State.latch o z a d s).finStatus = s.finStatus := rfl
@[simp] theorem State.latch_addrR (o : BitVec 2) (z : Bool) (a : Addr) (d : Byte) (s : State) : (State.latch o z a d s).addrR = s.addrR := rfl
@[simp] theorem State.latch_doutR (o : BitVec 2) (z : Bool) (a : Addr) (d : Byte) (s : State) : (State.latch o z a d s).doutR = s.doutR := rfl
@[simp] theorem State.latch_dirR (o : BitVec 2) (z : Bool) (a : Addr) (d : Byte) (s : State) : (State.latch o z a d s).dirR = s.dirR := rfl
@[simp] theorem State.latch_rwR (o : BitVec 2) (z : Bool) (a : Addr) (d : Byte) (s : State) : (State.latch o z a d s).rwR = s.rwR := rfl
@[simp] theorem State.latch_phi2R (o : BitVec 2) (z : Bool) (a : Addr) (d : Byte) (s : State) : (State.latch o z a d s).phi2R = s.phi2R := rfl
@[simp] theorem State.latch_rspValid (o : BitVec 2) (z : Bool) (a : Addr) (d : Byte) (s : State) : (State.latch o z a d s).rspValid = s.rspValid := rfl
@[simp] theorem State.latch_rspStatus (o : BitVec 2) (z : Bool) (a : Addr) (d : Byte) (s : State) : (State.latch o z a d s).rspStatus = s.rspStatus := rfl
@[simp] theorem State.latch_rspRdv (o : BitVec 2) (z : Bool) (a : Addr) (d : Byte) (s : State) : (State.latch o z a d s).rspRdv = s.rspRdv := rfl
@[simp] theorem State.latch_rspRdata (o : BitVec 2) (z : Bool) (a : Addr) (d : Byte) (s : State) : (State.latch o z a d s).rspRdata = s.rspRdata := rfl
@[simp] theorem State.latch_rspRs (o : BitVec 2) (z : Bool) (a : Addr) (d : Byte) (s : State) : (State.latch o z a d s).rspRs = s.rspRs := rfl
@[simp] theorem State.latch_rspWs (o : BitVec 2) (z : Bool) (a : Addr) (d : Byte) (s : State) : (State.latch o z a d s).rspWs = s.rspWs := rfl
@[simp] theorem State.latch_cfg (o : BitVec 2) (z : Bool) (a : Addr) (d : Byte) (s : State) : (State.latch o z a d s).cfg = s.cfg := rfl
@[simp] theorem State.latch_inputs (o : BitVec 2) (z : Bool) (a : Addr) (d : Byte) (s : State) : (State.latch o z a d s).inputs = s.inputs := rfl
@[simp] theorem State.latch_tick (o : BitVec 2) (z : Bool) (a : Addr) (d : Byte) (s : State) : (State.latch o z a d s).tick = s.tick := rfl
@[simp] theorem State.latch_genFirst (o : BitVec 2) (z : Bool) (a : Addr) (d : Byte) (s : State) : (State.latch o z a d s).genFirst = s.genFirst := rfl
@[simp] theorem State.latch_conf (o : BitVec 2) (z : Bool) (a : Addr) (d : Byte) (s : State) : (State.latch o z a d s).conf = s.conf := rfl
@[simp] theorem State.latch_input (o : BitVec 2) (z : Bool) (a : Addr) (d : Byte) (s : State) : (State.latch o z a d s).input = s.input := rfl
@[simp] theorem State.latch_inputAt (o : BitVec 2) (z : Bool) (a : Addr) (d : Byte) (s : State) (k : Nat) : (State.latch o z a d s).inputAt k = s.inputAt k := rfl

/-! ## `State.genBus`: the end state of a generic cycle (R136) -/

@[simp] theorem State.genBus_st (w : Bool) (s : State) : (State.genBus w s).st = s.st := rfl
@[simp] theorem State.genBus_op (w : Bool) (s : State) : (State.genBus w s).op = s.op := rfl
@[simp] theorem State.genBus_rsvdNz (w : Bool) (s : State) : (State.genBus w s).rsvdNz = s.rsvdNz := rfl
@[simp] theorem State.genBus_addr (w : Bool) (s : State) : (State.genBus w s).addr = s.addr := rfl
@[simp] theorem State.genBus_wdata (w : Bool) (s : State) : (State.genBus w s).wdata = s.wdata := rfl
@[simp] theorem State.genBus_strat (w : Bool) (s : State) : (State.genBus w s).strat = s.strat := rfl
@[simp] theorem State.genBus_cnt (w : Bool) (s : State) : (State.genBus w s).cnt = s.cnt := rfl
@[simp] theorem State.genBus_polls (w : Bool) (s : State) : (State.genBus w s).polls = s.polls := rfl
@[simp] theorem State.genBus_scratch (w : Bool) (s : State) : (State.genBus w s).scratch = s.scratch := rfl
@[simp] theorem State.genBus_finStatus (w : Bool) (s : State) : (State.genBus w s).finStatus = s.finStatus := rfl
@[simp] theorem State.genBus_addrR (w : Bool) (s : State) : (State.genBus w s).addrR = s.addr := rfl
@[simp] theorem State.genBus_doutR (w : Bool) (s : State) : (State.genBus w s).doutR = if w then s.wdata else s.doutR := rfl
@[simp] theorem State.genBus_dirR (w : Bool) (s : State) : (State.genBus w s).dirR = w := rfl
@[simp] theorem State.genBus_rwR (w : Bool) (s : State) : (State.genBus w s).rwR = true := rfl
@[simp] theorem State.genBus_phi2R (w : Bool) (s : State) : (State.genBus w s).phi2R = s.phi2R := rfl
@[simp] theorem State.genBus_rspValid (w : Bool) (s : State) : (State.genBus w s).rspValid = s.rspValid := rfl
@[simp] theorem State.genBus_rspStatus (w : Bool) (s : State) : (State.genBus w s).rspStatus = s.rspStatus := rfl
@[simp] theorem State.genBus_rspRdv (w : Bool) (s : State) : (State.genBus w s).rspRdv = s.rspRdv := rfl
@[simp] theorem State.genBus_rspRdata (w : Bool) (s : State) : (State.genBus w s).rspRdata = s.rspRdata := rfl
@[simp] theorem State.genBus_rspRs (w : Bool) (s : State) : (State.genBus w s).rspRs = s.rspRs := rfl
@[simp] theorem State.genBus_rspWs (w : Bool) (s : State) : (State.genBus w s).rspWs = s.rspWs := rfl
@[simp] theorem State.genBus_cfg (w : Bool) (s : State) : (State.genBus w s).cfg = s.cfg := rfl
@[simp] theorem State.genBus_inputs (w : Bool) (s : State) : (State.genBus w s).inputs = s.inputs := rfl
@[simp] theorem State.genBus_tick (w : Bool) (s : State) : (State.genBus w s).tick = s.tick := rfl
@[simp] theorem State.genBus_genFirst (w : Bool) (s : State) : (State.genBus w s).genFirst = s.genFirst := rfl
@[simp] theorem State.genBus_conf (w : Bool) (s : State) : (State.genBus w s).conf = s.conf := rfl
@[simp] theorem State.genBus_input (w : Bool) (s : State) : (State.genBus w s).input = s.input := rfl
@[simp] theorem State.genBus_inputAt (w : Bool) (s : State) (k : Nat) : (State.genBus w s).inputAt k = s.inputAt k := rfl
@[simp] theorem State.genBus_isWrite (w : Bool) (s : State) : (State.genBus w s).isWrite = s.isWrite := rfl
@[simp] theorem State.genBus_selected (w w' : Bool) (s : State) : (State.genBus w s).selected w' = s.selected w' := rfl

/-! ## `State.setupTick`: SETUP (R151, R152) -/

@[simp] theorem State.setupTick_st (w : Bool) (s : State) : (State.setupTick w s).st = .clow := rfl
@[simp] theorem State.setupTick_op (w : Bool) (s : State) : (State.setupTick w s).op = s.op := rfl
@[simp] theorem State.setupTick_rsvdNz (w : Bool) (s : State) : (State.setupTick w s).rsvdNz = s.rsvdNz := rfl
@[simp] theorem State.setupTick_addr (w : Bool) (s : State) : (State.setupTick w s).addr = s.addr := rfl
@[simp] theorem State.setupTick_wdata (w : Bool) (s : State) : (State.setupTick w s).wdata = s.wdata := rfl
@[simp] theorem State.setupTick_strat (w : Bool) (s : State) : (State.setupTick w s).strat = s.strat := rfl
@[simp] theorem State.setupTick_cnt (w : Bool) (s : State) : (State.setupTick w s).cnt = 0 := rfl
@[simp] theorem State.setupTick_polls (w : Bool) (s : State) : (State.setupTick w s).polls = 0 := rfl
@[simp] theorem State.setupTick_scratch (w : Bool) (s : State) : (State.setupTick w s).scratch = s.scratch := rfl
@[simp] theorem State.setupTick_finStatus (w : Bool) (s : State) : (State.setupTick w s).finStatus = .success := rfl
@[simp] theorem State.setupTick_addrR (w : Bool) (s : State) : (State.setupTick w s).addrR = s.addr := rfl
@[simp] theorem State.setupTick_doutR (w : Bool) (s : State) : (State.setupTick w s).doutR = if w then s.wdata else s.doutR := rfl
@[simp] theorem State.setupTick_dirR (w : Bool) (s : State) : (State.setupTick w s).dirR = w := rfl
@[simp] theorem State.setupTick_rwR (w : Bool) (s : State) : (State.setupTick w s).rwR = !w := rfl
@[simp] theorem State.setupTick_phi2R (w : Bool) (s : State) : (State.setupTick w s).phi2R = s.phi2R := rfl
@[simp] theorem State.setupTick_rspValid (w : Bool) (s : State) : (State.setupTick w s).rspValid = s.rspValid := rfl
@[simp] theorem State.setupTick_rspStatus (w : Bool) (s : State) : (State.setupTick w s).rspStatus = s.rspStatus := rfl
@[simp] theorem State.setupTick_rspRdv (w : Bool) (s : State) : (State.setupTick w s).rspRdv = s.rspRdv := rfl
@[simp] theorem State.setupTick_rspRdata (w : Bool) (s : State) : (State.setupTick w s).rspRdata = s.rspRdata := rfl
@[simp] theorem State.setupTick_rspRs (w : Bool) (s : State) : (State.setupTick w s).rspRs = s.rspRs := rfl
@[simp] theorem State.setupTick_rspWs (w : Bool) (s : State) : (State.setupTick w s).rspWs = s.rspWs := rfl
@[simp] theorem State.setupTick_cfg (w : Bool) (s : State) : (State.setupTick w s).cfg = s.cfg := rfl
@[simp] theorem State.setupTick_inputs (w : Bool) (s : State) : (State.setupTick w s).inputs = s.inputs := rfl
@[simp] theorem State.setupTick_tick (w : Bool) (s : State) : (State.setupTick w s).tick = s.tick := rfl
@[simp] theorem State.setupTick_genFirst (w : Bool) (s : State) : (State.setupTick w s).genFirst = s.genFirst := rfl
@[simp] theorem State.setupTick_conf (w : Bool) (s : State) : (State.setupTick w s).conf = s.conf := rfl
@[simp] theorem State.setupTick_input (w : Bool) (s : State) : (State.setupTick w s).input = s.input := rfl
@[simp] theorem State.setupTick_inputAt (w : Bool) (s : State) (k : Nat) : (State.setupTick w s).inputAt k = s.inputAt k := rfl
@[simp] theorem State.setupTick_isWrite (w : Bool) (s : State) : (State.setupTick w s).isWrite = s.isWrite := rfl
@[simp] theorem State.setupTick_selected (w w' : Bool) (s : State) : (State.setupTick w s).selected w' = s.selected w' := rfl

/-! ## `State.resetTick`: RESET (R250) -/

@[simp] theorem State.resetTick_st (s : State) : (State.resetTick s).st = .idle := rfl
@[simp] theorem State.resetTick_op (s : State) : (State.resetTick s).op = 0b00#2 := rfl
@[simp] theorem State.resetTick_rsvdNz (s : State) : (State.resetTick s).rsvdNz = false := rfl
@[simp] theorem State.resetTick_addr (s : State) : (State.resetTick s).addr = 0x0000#16 := rfl
@[simp] theorem State.resetTick_wdata (s : State) : (State.resetTick s).wdata = 0x00#8 := rfl
@[simp] theorem State.resetTick_strat (s : State) : (State.resetTick s).strat = .default := rfl
@[simp] theorem State.resetTick_cnt (s : State) : (State.resetTick s).cnt = 0 := rfl
@[simp] theorem State.resetTick_polls (s : State) : (State.resetTick s).polls = 0 := rfl
@[simp] theorem State.resetTick_scratch (s : State) : (State.resetTick s).scratch = 0x00#8 := rfl
@[simp] theorem State.resetTick_finStatus (s : State) : (State.resetTick s).finStatus = .success := rfl
@[simp] theorem State.resetTick_addrR (s : State) : (State.resetTick s).addrR = Config.addrDraw (s.tick + 1) := rfl
@[simp] theorem State.resetTick_doutR (s : State) : (State.resetTick s).doutR = Config.doutDraw (s.tick + 1) := rfl
@[simp] theorem State.resetTick_dirR (s : State) : (State.resetTick s).dirR = false := rfl
@[simp] theorem State.resetTick_rwR (s : State) : (State.resetTick s).rwR = true := rfl
@[simp] theorem State.resetTick_phi2R (s : State) : (State.resetTick s).phi2R = false := rfl
@[simp] theorem State.resetTick_rspValid (s : State) : (State.resetTick s).rspValid = false := rfl
@[simp] theorem State.resetTick_rspStatus (s : State) : (State.resetTick s).rspStatus = .success := rfl
@[simp] theorem State.resetTick_rspRdv (s : State) : (State.resetTick s).rspRdv = false := rfl
@[simp] theorem State.resetTick_rspRdata (s : State) : (State.resetTick s).rspRdata = 0x00#8 := rfl
@[simp] theorem State.resetTick_rspRs (s : State) : (State.resetTick s).rspRs = .default := rfl
@[simp] theorem State.resetTick_rspWs (s : State) : (State.resetTick s).rspWs = .default := rfl
@[simp] theorem State.resetTick_cfg (s : State) : (State.resetTick s).cfg = s.cfg := rfl
@[simp] theorem State.resetTick_inputs (s : State) : (State.resetTick s).inputs = s.inputs := rfl
@[simp] theorem State.resetTick_tick (s : State) : (State.resetTick s).tick = s.tick := rfl
@[simp] theorem State.resetTick_genFirst (s : State) : (State.resetTick s).genFirst = false := rfl
@[simp] theorem State.resetTick_conf (s : State) : (State.resetTick s).conf = s.conf := rfl
@[simp] theorem State.resetTick_input (s : State) : (State.resetTick s).input = s.input := rfl
@[simp] theorem State.resetTick_inputAt (s : State) (k : Nat) : (State.resetTick s).inputAt k = s.inputAt k := rfl

/-! ## `State.advance`: the next sample of the inputs (R27) -/

@[simp] theorem State.advance_st (s : State) : (State.advance s).st = s.st := rfl
@[simp] theorem State.advance_op (s : State) : (State.advance s).op = s.op := rfl
@[simp] theorem State.advance_rsvdNz (s : State) : (State.advance s).rsvdNz = s.rsvdNz := rfl
@[simp] theorem State.advance_addr (s : State) : (State.advance s).addr = s.addr := rfl
@[simp] theorem State.advance_wdata (s : State) : (State.advance s).wdata = s.wdata := rfl
@[simp] theorem State.advance_strat (s : State) : (State.advance s).strat = s.strat := rfl
@[simp] theorem State.advance_cnt (s : State) : (State.advance s).cnt = s.cnt := rfl
@[simp] theorem State.advance_polls (s : State) : (State.advance s).polls = s.polls := rfl
@[simp] theorem State.advance_scratch (s : State) : (State.advance s).scratch = s.scratch := rfl
@[simp] theorem State.advance_finStatus (s : State) : (State.advance s).finStatus = s.finStatus := rfl
@[simp] theorem State.advance_addrR (s : State) : (State.advance s).addrR = s.addrR := rfl
@[simp] theorem State.advance_doutR (s : State) : (State.advance s).doutR = s.doutR := rfl
@[simp] theorem State.advance_dirR (s : State) : (State.advance s).dirR = s.dirR := rfl
@[simp] theorem State.advance_rwR (s : State) : (State.advance s).rwR = s.rwR := rfl
@[simp] theorem State.advance_phi2R (s : State) : (State.advance s).phi2R = s.phi2R := rfl
@[simp] theorem State.advance_rspValid (s : State) : (State.advance s).rspValid = s.rspValid := rfl
@[simp] theorem State.advance_rspStatus (s : State) : (State.advance s).rspStatus = s.rspStatus := rfl
@[simp] theorem State.advance_rspRdv (s : State) : (State.advance s).rspRdv = s.rspRdv := rfl
@[simp] theorem State.advance_rspRdata (s : State) : (State.advance s).rspRdata = s.rspRdata := rfl
@[simp] theorem State.advance_rspRs (s : State) : (State.advance s).rspRs = s.rspRs := rfl
@[simp] theorem State.advance_rspWs (s : State) : (State.advance s).rspWs = s.rspWs := rfl
@[simp] theorem State.advance_cfg (s : State) : (State.advance s).cfg = s.cfg := rfl
@[simp] theorem State.advance_inputs (s : State) : (State.advance s).inputs = s.inputs.tail := rfl
@[simp] theorem State.advance_tick (s : State) : (State.advance s).tick = s.tick + 1 := rfl
@[simp] theorem State.advance_genFirst (s : State) : (State.advance s).genFirst = s.genFirst := rfl
@[simp] theorem State.advance_conf (s : State) : (State.advance s).conf = s.conf := rfl
@[simp] theorem State.advance_isWrite (s : State) : (State.advance s).isWrite = s.isWrite := rfl
@[simp] theorem State.advance_selected (w : Bool) (s : State) : (State.advance s).selected w = s.selected w := rfl

/-! ## `State.withInput`: another sample at this tick -/

@[simp] theorem State.withInput_st (i : Input) (s : State) : (State.withInput i s).st = s.st := rfl
@[simp] theorem State.withInput_op (i : Input) (s : State) : (State.withInput i s).op = s.op := rfl
@[simp] theorem State.withInput_rsvdNz (i : Input) (s : State) : (State.withInput i s).rsvdNz = s.rsvdNz := rfl
@[simp] theorem State.withInput_addr (i : Input) (s : State) : (State.withInput i s).addr = s.addr := rfl
@[simp] theorem State.withInput_wdata (i : Input) (s : State) : (State.withInput i s).wdata = s.wdata := rfl
@[simp] theorem State.withInput_strat (i : Input) (s : State) : (State.withInput i s).strat = s.strat := rfl
@[simp] theorem State.withInput_cnt (i : Input) (s : State) : (State.withInput i s).cnt = s.cnt := rfl
@[simp] theorem State.withInput_polls (i : Input) (s : State) : (State.withInput i s).polls = s.polls := rfl
@[simp] theorem State.withInput_scratch (i : Input) (s : State) : (State.withInput i s).scratch = s.scratch := rfl
@[simp] theorem State.withInput_finStatus (i : Input) (s : State) : (State.withInput i s).finStatus = s.finStatus := rfl
@[simp] theorem State.withInput_addrR (i : Input) (s : State) : (State.withInput i s).addrR = s.addrR := rfl
@[simp] theorem State.withInput_doutR (i : Input) (s : State) : (State.withInput i s).doutR = s.doutR := rfl
@[simp] theorem State.withInput_dirR (i : Input) (s : State) : (State.withInput i s).dirR = s.dirR := rfl
@[simp] theorem State.withInput_rwR (i : Input) (s : State) : (State.withInput i s).rwR = s.rwR := rfl
@[simp] theorem State.withInput_phi2R (i : Input) (s : State) : (State.withInput i s).phi2R = s.phi2R := rfl
@[simp] theorem State.withInput_rspValid (i : Input) (s : State) : (State.withInput i s).rspValid = s.rspValid := rfl
@[simp] theorem State.withInput_rspStatus (i : Input) (s : State) : (State.withInput i s).rspStatus = s.rspStatus := rfl
@[simp] theorem State.withInput_rspRdv (i : Input) (s : State) : (State.withInput i s).rspRdv = s.rspRdv := rfl
@[simp] theorem State.withInput_rspRdata (i : Input) (s : State) : (State.withInput i s).rspRdata = s.rspRdata := rfl
@[simp] theorem State.withInput_rspRs (i : Input) (s : State) : (State.withInput i s).rspRs = s.rspRs := rfl
@[simp] theorem State.withInput_rspWs (i : Input) (s : State) : (State.withInput i s).rspWs = s.rspWs := rfl
@[simp] theorem State.withInput_cfg (i : Input) (s : State) : (State.withInput i s).cfg = s.cfg := rfl
@[simp] theorem State.withInput_inputs (i : Input) (s : State) : (State.withInput i s).inputs = i :: s.inputs.tail := rfl
@[simp] theorem State.withInput_tick (i : Input) (s : State) : (State.withInput i s).tick = s.tick := rfl
@[simp] theorem State.withInput_genFirst (i : Input) (s : State) : (State.withInput i s).genFirst = s.genFirst := rfl
@[simp] theorem State.withInput_conf (i : Input) (s : State) : (State.withInput i s).conf = s.conf := rfl
@[simp] theorem State.withInput_isWrite (i : Input) (s : State) : (State.withInput i s).isWrite = s.isWrite := rfl
@[simp] theorem State.withInput_selected (i : Input) (w : Bool) (s : State) : (State.withInput i s).selected w = s.selected w := rfl

end Sys2Proof.Machine
end

