-- ==== Sys2Proof/Laws/Ops.lean ====
section
/-!
SUPPORT. One spec lemma per shared operation: what it can do, said once. Later proofs cite these and unfold no operation.
-/

namespace Sys2Proof.Machine

/-! ## The input stream -/

@[simp] theorem State.advance_inputAt (s : State) (k : Nat) : s.advance.inputAt k = s.inputAt (k + 1) := by
  have h : s.tick + 1 + k = s.tick + (k + 1) := by omega
  cases hs : s.inputs with
  | nil => simp [State.inputAt, hs, h]
  | cons i rest => simp [State.inputAt, hs, h]

@[simp] theorem State.advance_input (s : State) : s.advance.input = s.inputAt 1 := s.advance_inputAt 0

@[simp] theorem State.withInput_input (i : Input) (s : State) : (s.withInput i).input = i := rfl

@[simp] theorem State.withInput_inputAt_succ (i : Input) (s : State) (k : Nat) :
    (s.withInput i).inputAt (k + 1) = s.inputAt (k + 1) := by
  cases hs : s.inputs with
  | nil => simp [State.inputAt, State.withInput, hs]
  | cons j rest => simp [State.inputAt, State.withInput, hs]

/-- The sample, the configuration and every register decide a tick; the stream beyond does not. -/
theorem State.inputAt_eq_of_eq {s t : State} (hi : t.inputs = s.inputs) (ht : t.tick = s.tick) (k : Nat) :
    t.inputAt k = s.inputAt k := by
  simp [State.inputAt, hi, ht]

/-! ## Counting and polls (R38, R153) -/

theorem State.whenDone_of_pos {s : State} (act : State → State) (h : 0 < s.cnt) : s.whenDone act = s.count := by
  simp [State.whenDone, h]

theorem State.whenDone_of_zero {s : State} (act : State → State) (h : s.cnt = 0) : s.whenDone act = act s := by
  simp [State.whenDone, h]

/-- A waiting state counts while the counter runs, and acts when it is done. -/
theorem State.whenDone_cases (s : State) (act : State → State) :
    (0 < s.cnt ∧ s.whenDone act = s.count) ∨ (s.cnt = 0 ∧ s.whenDone act = act s) := by
  rcases Nat.eq_zero_or_pos s.cnt with h | h
  · exact .inr ⟨h, whenDone_of_zero act h⟩
  · exact .inl ⟨h, whenDone_of_pos act h⟩

/-- R153: a poll that meets its condition always succeeds. -/
@[simp] theorem pollResult_hit (c : Config) (n : Nat) : pollResult c n true = .lock := rfl

theorem pollResult_abort {c : Config} {n : Nat} (hu : c.pollUnbounded = false) (hb : c.pollBudget ≤ n) :
    pollResult c n false = .abort := by
  simp [pollResult, hu, hb]

theorem pollResult_again {c : Config} {n : Nat} (h : c.pollUnbounded = true ∨ n < c.pollBudget) :
    pollResult c n false = .again := by
  rcases h with h | h
  · simp [pollResult, h]
  · simp [pollResult, Nat.not_le.mpr h]

theorem lt_two_pow_bitsFor (n : Nat) : n < 2 ^ bitsFor n := Nat.lt_log2_self

/-- A count up to the budget is stored as it is. -/
theorem State.countPoll_polls_of_le {s : State} (hu : s.conf.pollUnbounded = false)
    (hb : s.polls + 1 ≤ s.conf.pollBudget) : s.countPoll.polls = s.polls + 1 := by
  have h := lt_two_pow_bitsFor s.conf.pollBudget
  simp only [State.countPoll, pollW, hu, Bool.false_eq_true, if_false]
  omega

/-- A finite count goes up by at most one. -/
theorem State.countPoll_polls_le {s : State} (hu : s.conf.pollUnbounded = false) :
    s.countPoll.polls ≤ s.polls + 1 := by
  simp only [State.countPoll, hu, Bool.false_eq_true, if_false]
  exact Nat.min_le_left _ _

/-- The count fits POLL_W (R24). -/
theorem State.countPoll_polls_lt (s : State) : s.countPoll.polls < 2 ^ pollW s.conf := by
  have h : 0 < 2 ^ pollW s.conf := Nat.two_pow_pos _
  simp only [State.countPoll]
  split
  · exact Nat.mod_lt _ h
  · omega

theorem State.poll_lock {s : State} {hit : Bool} (f g : State → State) (h : hit = true) :
    s.poll hit f g = f s.countPoll := by
  subst h; simp [State.poll]

theorem State.poll_abort {s : State} {hit : Bool} (f g : State → State) (h : hit = false)
    (hu : s.conf.pollUnbounded = false) (hb : s.conf.pollBudget ≤ s.polls + 1) :
    s.poll hit f g = s.countPoll.raiseNoClockDetected := by
  subst h; simp [State.poll, pollResult_abort hu hb]

theorem State.poll_again {s : State} {hit : Bool} (f g : State → State) (h : hit = false)
    (hb : s.conf.pollUnbounded = true ∨ s.polls + 1 < s.conf.pollBudget) :
    s.poll hit f g = g s.countPoll := by
  subst h; simp [State.poll, pollResult_again hb]

/-- A poll locks if it hits; if it misses, it aborts or tries again (R153). -/
theorem State.poll_cases (s : State) (hit : Bool) (f g : State → State) :
    (hit = true ∧ s.poll hit f g = f s.countPoll) ∨
    (hit = false ∧ s.conf.pollUnbounded = false ∧ s.conf.pollBudget ≤ s.polls + 1 ∧
      s.poll hit f g = s.countPoll.raiseNoClockDetected) ∨
    (hit = false ∧ (s.conf.pollUnbounded = true ∨ s.polls + 1 < s.conf.pollBudget) ∧
      s.poll hit f g = g s.countPoll) := by
  cases hit with
  | true => exact .inl ⟨rfl, poll_lock f g rfl⟩
  | false =>
    by_cases hb : s.conf.pollUnbounded = true ∨ s.polls + 1 < s.conf.pollBudget
    · exact .inr (.inr ⟨rfl, hb, poll_again f g rfl hb⟩)
    · have hu : s.conf.pollUnbounded = false := by simpa using fun h => hb (.inl h)
      have hn : s.conf.pollBudget ≤ s.polls + 1 := Nat.not_lt.mp fun h => hb (.inr h)
      exact .inr (.inl ⟨rfl, hu, hn, poll_abort f g rfl hu hn⟩)

/-! ## Dispatch (R201) -/

/-- What an access routed by a strategy that the mux turns away becomes (R206, R207). -/
theorem State.route_default (s : State) :
    s.route .default = { s with strat := .default, st := .gen, genFirst := true } := rfl

theorem State.route_reserved (s : State) :
    s.route .reserved = State.raiseNotImplemented { s with strat := .reserved } := rfl

theorem State.route_sync {s : State} {k : Strat} (hk : k = .syncPhi0 ∨ k = .syncPhi0Skip)
    (hc : s.conf.syncSupported = true) : s.route k = { s with strat := k, st := .setup } := by
  rcases hk with rfl | rfl <;> exact if_pos hc

theorem State.route_unsupported {s : State} {k : Strat} (hk : k = .syncPhi0 ∨ k = .syncPhi0Skip)
    (hc : s.conf.syncSupported = false) : s.route k = State.raiseNotImplemented { s with strat := k } := by
  have h : ¬ s.conf.syncSupported = true := by simp [hc]
  rcases hk with rfl | rfl <;> exact if_neg h

/-- The four routes of R202. -/
theorem State.route_cases (s : State) (k : Strat) :
    (k = .default ∧ s.route k = { s with strat := k, st := .gen, genFirst := true }) ∨
    ((k = .syncPhi0 ∨ k = .syncPhi0Skip) ∧ s.conf.syncSupported = true ∧
      s.route k = { s with strat := k, st := .setup }) ∨
    (((k = .syncPhi0 ∨ k = .syncPhi0Skip) ∧ s.conf.syncSupported = false ∨ k = .reserved) ∧
      s.route k = State.raiseNotImplemented { s with strat := k }) := by
  cases k with
  | default => exact .inl ⟨rfl, rfl⟩
  | reserved => exact .inr (.inr ⟨.inr rfl, rfl⟩)
  | syncPhi0 =>
    cases hc : s.conf.syncSupported with
    | true => exact .inr (.inl ⟨.inl rfl, rfl, route_sync (.inl rfl) hc⟩)
    | false => exact .inr (.inr ⟨.inl ⟨.inl rfl, rfl⟩, route_unsupported (.inl rfl) hc⟩)
  | syncPhi0Skip =>
    cases hc : s.conf.syncSupported with
    | true => exact .inr (.inl ⟨.inr rfl, rfl, route_sync (.inr rfl) hc⟩)
    | false => exact .inr (.inr ⟨.inl ⟨.inr rfl, rfl⟩, route_unsupported (.inr rfl) hc⟩)

/-! ## GEN (R136) -/

/-- GEN waits while GEN_DONE is 0, and ends the cycle at the tick it is 1. -/
theorem State.genTick_cases (w : Bool) (s : State) :
    (s.input.genDone = false ∧ s.genTick w = { s with genFirst := false }) ∨
    (s.input.genDone = true ∧ s.genTick w =
      (State.genBus w { s with genFirst := false }).finish .success (if w then none else some s.input.genRdata)
        .default .default) := by
  cases h : s.input.genDone with
  | false => exact .inl ⟨rfl, by simp [State.genTick, h]⟩
  | true => exact .inr ⟨rfl, by simp [State.genTick, h]⟩

/-! ## The synchronized cycle (R154 to R162) -/

/-- CLOW counts, locks on LOW, aborts or polls again. -/
theorem State.clowTick_cases (s : State) :
    (0 < s.cnt ∧ s.clowTick = s.count) ∨
    (s.cnt = 0 ∧ s.input.phi0 = false ∧ s.clowTick = { s.countPoll with st := .chigh, cnt := s.conf.cPoll - 1 }) ∨
    (s.cnt = 0 ∧ s.input.phi0 = true ∧ s.conf.pollUnbounded = false ∧ s.conf.pollBudget ≤ s.polls + 1 ∧
      s.clowTick = s.countPoll.raiseNoClockDetected) ∨
    (s.cnt = 0 ∧ s.input.phi0 = true ∧ (s.conf.pollUnbounded = true ∨ s.polls + 1 < s.conf.pollBudget) ∧
      s.clowTick = { s.countPoll with cnt := s.conf.cPoll - 1 }) := by
  unfold State.clowTick
  rcases s.whenDone_cases _ with ⟨h, e⟩ | ⟨h, e⟩
  · exact .inl ⟨h, e⟩
  · rw [e]
    rcases s.poll_cases (!s.input.phi0) _ _ with ⟨p, e⟩ | ⟨p, u, b, e⟩ | ⟨p, b, e⟩
    · exact .inr (.inl ⟨h, by simpa using p, e⟩)
    · exact .inr (.inr (.inl ⟨h, by simpa using p, u, b, e⟩))
    · exact .inr (.inr (.inr ⟨h, by simpa using p, b, e⟩))

/-- CHIGH counts, locks on HIGH, aborts or polls again. -/
theorem State.chighTick_cases (s : State) :
    (0 < s.cnt ∧ s.chighTick = s.count) ∨
    (s.cnt = 0 ∧ s.input.phi0 = true ∧ s.chighTick = { s.countPoll with st := .fine, cnt := s.conf.tFirst - 1 }) ∨
    (s.cnt = 0 ∧ s.input.phi0 = false ∧ s.conf.pollUnbounded = false ∧ s.conf.pollBudget ≤ s.polls + 1 ∧
      s.chighTick = s.countPoll.raiseNoClockDetected) ∨
    (s.cnt = 0 ∧ s.input.phi0 = false ∧ (s.conf.pollUnbounded = true ∨ s.polls + 1 < s.conf.pollBudget) ∧
      s.chighTick = { s.countPoll with cnt := s.conf.cPoll - 1 }) := by
  unfold State.chighTick
  rcases s.whenDone_cases _ with ⟨h, e⟩ | ⟨h, e⟩
  · exact .inl ⟨h, e⟩
  · rw [e]
    rcases s.poll_cases s.input.phi0 _ _ with ⟨p, e⟩ | ⟨p, u, b, e⟩ | ⟨p, b, e⟩
    · exact .inr (.inl ⟨h, p, e⟩)
    · exact .inr (.inr (.inl ⟨h, p, u, b, e⟩))
    · exact .inr (.inr (.inr ⟨h, p, b, e⟩))

/-- FINE counts, locks on LOW with the strategy's wait, aborts or makes another ruler pass. -/
theorem State.fineTick_cases (k : Strat) (s : State) :
    (0 < s.cnt ∧ s.fineTick k = s.count) ∨
    (s.cnt = 0 ∧ s.input.phi0 = false ∧ s.fineTick k = { s.countPoll with st := .wait, cnt := waitOf s.conf k - 1 }) ∨
    (s.cnt = 0 ∧ s.input.phi0 = true ∧ s.conf.pollUnbounded = false ∧ s.conf.pollBudget ≤ s.polls + 1 ∧
      s.fineTick k = s.countPoll.raiseNoClockDetected) ∨
    (s.cnt = 0 ∧ s.input.phi0 = true ∧ (s.conf.pollUnbounded = true ∨ s.polls + 1 < s.conf.pollBudget) ∧
      s.fineTick k = { s.countPoll with cnt := s.conf.tRuler - 1 }) := by
  unfold State.fineTick
  rcases s.whenDone_cases _ with ⟨h, e⟩ | ⟨h, e⟩
  · exact .inl ⟨h, e⟩
  · rw [e]
    rcases s.poll_cases (!s.input.phi0) _ _ with ⟨p, e⟩ | ⟨p, u, b, e⟩ | ⟨p, b, e⟩
    · exact .inr (.inl ⟨h, by simpa using p, e⟩)
    · exact .inr (.inr (.inl ⟨h, by simpa using p, u, b, e⟩))
    · exact .inr (.inr (.inr ⟨h, by simpa using p, b, e⟩))

/-- WAIT counts, then raises PHI2 and enters HIGH. -/
theorem State.waitTick_cases (s : State) :
    (0 < s.cnt ∧ s.waitTick = s.count) ∨
    (s.cnt = 0 ∧ s.waitTick = { s with phi2R := true, st := .high, cnt := s.conf.tHigh - 1 }) :=
  s.whenDone_cases _

/-- HIGH counts, then lowers PHI2 and enters SAMP. -/
theorem State.highTick_cases (s : State) :
    (0 < s.cnt ∧ s.highTick = s.count) ∨
    (s.cnt = 0 ∧ s.highTick = { s with phi2R := false, st := .samp, cnt := s.conf.tSample }) :=
  s.whenDone_cases _

/-- SAMP counts, then takes the snapshot on a read and enters FIN. -/
theorem State.sampTick_cases (w : Bool) (s : State) :
    (0 < s.cnt ∧ s.sampTick w = s.count) ∨
    (s.cnt = 0 ∧ s.sampTick w = { s with
      scratch := if w then s.scratch else reassemble s.conf (portSample s.conf s.input), st := .fin }) :=
  s.whenDone_cases _

/-- FIN responds Success with the byte of a read, or NoClockDetected, and restores RW. -/
theorem State.finTick_cases (w : Bool) (s : State) :
    (s.finStatus = .success ∧ s.finTick w =
      State.finish .success (if w then none else some s.scratch) .default .default { s with rwR := true }) ∨
    (s.finStatus ≠ .success ∧ s.finTick w =
      State.finish .noClockDetected none .default .default { s with rwR := true }) := by
  by_cases h : s.finStatus = .success
  · exact .inl ⟨h, by simp [State.finTick, h]⟩
  · exact .inr ⟨h, by simp [State.finTick, h]⟩

/-- A synchronized cycle has a tick exactly in SETUP to FIN. -/
theorem State.syncTick_isSome (w : Bool) (k : Strat) (s : State) :
    (s.syncTick w k).isSome = true ↔ s.st = .setup ∨ s.st.onBus = true := by
  cases h : s.st <;> simp [State.syncTick, h, FsmState.onBus]

/-! ## The operands (R121 to R123, R161) -/

theorem covers_iff (r : RangeArith) (e : Entry) (a : Addr) :
    covers r e a = true ↔ e.length ≠ 0#16 ∧ e.start.toNat ≤ a.toNat ∧ a.toNat < rangeEnd r e := by
  simp only [covers, Bool.and_eq_true, decide_eq_true_eq, and_assoc]

theorem servingIn_nil (r : RangeArith) (a : Addr) : servingIn r a [] = none := rfl

theorem servingIn_sentinel {r : RangeArith} {a : Addr} {e : Entry} (l : List Entry) (h : e.length = 0#16) :
    servingIn r a (e :: l) = none := by
  simp [servingIn, h]

theorem servingIn_hit {r : RangeArith} {a : Addr} {e : Entry} (l : List Entry) (h : covers r e a = true) :
    servingIn r a (e :: l) = some e := by
  simp [servingIn, ((covers_iff r e a).mp h).1, h]

theorem servingIn_miss {r : RangeArith} {a : Addr} {e : Entry} (l : List Entry) (hz : e.length ≠ 0#16)
    (h : covers r e a = false) : servingIn r a (e :: l) = servingIn r a l := by
  simp [servingIn, hz, h]

@[simp] theorem reassemble_getElem (c : Config) (p : List Byte) (i : Nat) (h : i < 8) :
    (reassemble c p)[i] = logicalBit p c.bitmap[i] := by
  simp [reassemble]

theorem logicalBit_eq_xor (p : List Byte) (m : MapEntry) : logicalBit p m = xor (portBit p m) m.inv := by
  unfold logicalBit; cases portBit p m <;> cases m.inv <;> rfl

end Sys2Proof.Machine
end

