-- ==== Sys2Proof/Laws/PerInstr.lean ====
section
/-!
SUPPORT. Statements made per instruction: the word of each instruction carries the bits that its row of
spec/opcode_table.json fixes ("match" under "mask"), whatever the operands.
-/

namespace Sys2Proof.Laws.RowFits

/-- The fixed bits of the instruction's row: CMD[7:0] for a command, ENTRY[33:32] for a read code, ENTRY[35:34] for a
write code. -/
def Statement (i : Instr) : Prop :=
  match i with
  | .rd _ _ => ∃ w, encode i = .cmd w ∧ w.extractLsb' 0 8 = 0x00#8
  | .wr _ _ => ∃ w, encode i = .cmd w ∧ w.extractLsb' 0 8 = 0x01#8
  | .lk _ _ => ∃ w, encode i = .cmd w ∧ w.extractLsb' 0 8 = 0x02#8
  | .rsDefault _ _ _ => ∃ w, encode i = .readEntry w ∧ w.extractLsb' 32 2 = 0b00#2
  | .rsSyncPhi0 _ _ _ => ∃ w, encode i = .readEntry w ∧ w.extractLsb' 32 2 = 0b01#2
  | .rsSyncPhi0Skip _ _ _ => ∃ w, encode i = .readEntry w ∧ w.extractLsb' 32 2 = 0b10#2
  | .wsDefault _ _ _ => ∃ w, encode i = .writeEntry w ∧ w.extractLsb' 34 2 = 0b00#2
  | .wsSyncPhi0 _ _ _ => ∃ w, encode i = .writeEntry w ∧ w.extractLsb' 34 2 = 0b01#2
  | .wsSyncPhi0Skip _ _ _ => ∃ w, encode i = .writeEntry w ∧ w.extractLsb' 34 2 = 0b10#2

theorem rd (a : HostAddr) (d : Byte) : Statement (.rd a d) := ⟨_, rfl, low_encodeCmd _ a d⟩

theorem wr (a : HostAddr) (d : Byte) : Statement (.wr a d) := ⟨_, rfl, low_encodeCmd _ a d⟩

theorem lk (a : HostAddr) (d : Byte) : Statement (.lk a d) := ⟨_, rfl, low_encodeCmd _ a d⟩

theorem rsDefault (s l : Addr) (x : Strat) : Statement (.rsDefault s l x) := ⟨_, rfl, rs_entryWord _⟩

theorem rsSyncPhi0 (s l : Addr) (x : Strat) : Statement (.rsSyncPhi0 s l x) := ⟨_, rfl, rs_entryWord _⟩

theorem rsSyncPhi0Skip (s l : Addr) (x : Strat) : Statement (.rsSyncPhi0Skip s l x) := ⟨_, rfl, rs_entryWord _⟩

theorem wsDefault (s l : Addr) (x : Strat) : Statement (.wsDefault s l x) := ⟨_, rfl, ws_entryWord _⟩

theorem wsSyncPhi0 (s l : Addr) (x : Strat) : Statement (.wsSyncPhi0 s l x) := ⟨_, rfl, ws_entryWord _⟩

theorem wsSyncPhi0Skip (s l : Addr) (x : Strat) : Statement (.wsSyncPhi0Skip s l x) := ⟨_, rfl, ws_entryWord _⟩

end Sys2Proof.Laws.RowFits
end

