-- ==== Sys2Proof/Laws/Step.lean ====
section
/-!
SUPPORT. The arms of exec in each FSM state, the inversion lemma of the step, and runs of steps.
-/

namespace Sys2Proof.Machine

/-! ## The arms, state by state -/

theorem exec_rd (a : HostAddr) (d : Byte) (s : State) : exec (.rd a d) s = accessTick 0b00#2 false (a16 a) d s := rfl

theorem exec_wr (a : HostAddr) (d : Byte) (s : State) : exec (.wr a d) s = accessTick 0b01#2 true (a16 a) d s := rfl

theorem exec_generic {i : Instr} {w : Bool} (h : genericRow i = some w) (s : State) : exec i s = genericCycle w s := by
  cases i <;> simp [genericRow] at h <;> subst h <;> rfl

theorem exec_sync {i : Instr} {w : Bool} {k : Strat} (h : syncRow i = some (w, k)) (s : State) :
    exec i s = syncCycle w k s := by
  cases i <;> simp [syncRow] at h <;> obtain ⟨rfl, rfl⟩ := h <;> rfl

theorem accessTick_idle {s : State} (h : s.st = .idle) (o : BitVec 2) (w : Bool) (a : Addr) (d : Byte) :
    accessTick o w a d s = .next (s.clearValid.latch o false a d) := by
  simp [accessTick, h]

theorem accessTick_dispatch {s : State} (h : s.st = .dispatch) (o : BitVec 2) (w : Bool) (a : Addr) (d : Byte) :
    accessTick o w a d s = .next (s.clearValid.dispatchAccess w) := by
  simp [accessTick, h]

theorem accessTick_gen {s : State} (h : s.st = .gen) (o : BitVec 2) (w : Bool) (a : Addr) (d : Byte) :
    accessTick o w a d s = .next (s.clearValid.genTick w) := by
  simp [accessTick, h]

theorem accessTick_sync {s : State} (h : s.st = .setup ∨ s.st.onBus = true) (o : BitVec 2) (w : Bool) (a : Addr)
    (d : Byte) : accessTick o w a d s = orNotAtThisTick (s.clearValid.syncTick w s.strat) := by
  cases hs : s.st <;> simp [hs, FsmState.onBus] at h <;> simp [accessTick, hs]

theorem execLk_idle {s : State} (h : s.st = .idle) (a : HostAddr) (d : Byte) :
    exec (.lk a d) s = .next (s.clearValid.latch 0b10#2 false (a16 a) d) := by
  simp [exec, execLk, h]

theorem execLk_dispatch {s : State} (h : s.st = .dispatch) (a : HostAddr) (d : Byte) :
    exec (.lk a d) s = .next s.clearValid.dispatchLookup := by
  simp [exec, execLk, h]

theorem genericCycle_dispatch {s : State} (h : s.st = .dispatch) (w : Bool) :
    genericCycle w s = .next (s.clearValid.whenDone (State.route .default)) := by
  simp [genericCycle, h]

theorem genericCycle_gen {s : State} (h : s.st = .gen) (w : Bool) :
    genericCycle w s = .next (s.clearValid.genTick w) := by
  simp [genericCycle, h]

theorem syncCycle_dispatch {s : State} (h : s.st = .dispatch) (w : Bool) (k : Strat) :
    syncCycle w k s = .next (s.clearValid.whenDone (State.route k)) := by
  simp [syncCycle, h]

theorem syncCycle_setup {s : State} (h : s.st = .setup) (w : Bool) (k : Strat) :
    syncCycle w k s = .next (s.clearValid.setupTick w) := by
  simp [syncCycle, orNotAtThisTick, State.syncTick, h]

theorem syncCycle_clow {s : State} (h : s.st = .clow) (w : Bool) (k : Strat) :
    syncCycle w k s = .next s.clearValid.clowTick := by
  simp [syncCycle, orNotAtThisTick, State.syncTick, h]

theorem syncCycle_chigh {s : State} (h : s.st = .chigh) (w : Bool) (k : Strat) :
    syncCycle w k s = .next s.clearValid.chighTick := by
  simp [syncCycle, orNotAtThisTick, State.syncTick, h]

theorem syncCycle_fine {s : State} (h : s.st = .fine) (w : Bool) (k : Strat) :
    syncCycle w k s = .next (s.clearValid.fineTick k) := by
  simp [syncCycle, orNotAtThisTick, State.syncTick, h]

theorem syncCycle_wait {s : State} (h : s.st = .wait) (w : Bool) (k : Strat) :
    syncCycle w k s = .next s.clearValid.waitTick := by
  simp [syncCycle, orNotAtThisTick, State.syncTick, h]

theorem syncCycle_high {s : State} (h : s.st = .high) (w : Bool) (k : Strat) :
    syncCycle w k s = .next s.clearValid.highTick := by
  simp [syncCycle, orNotAtThisTick, State.syncTick, h]

theorem syncCycle_samp {s : State} (h : s.st = .samp) (w : Bool) (k : Strat) :
    syncCycle w k s = .next (s.clearValid.sampTick w) := by
  simp [syncCycle, orNotAtThisTick, State.syncTick, h]

theorem syncCycle_fin {s : State} (h : s.st = .fin) (w : Bool) (k : Strat) :
    syncCycle w k s = .next (s.clearValid.finTick w) := by
  simp [syncCycle, orNotAtThisTick, State.syncTick, h]

theorem genericRow_genericInstr (w : Bool) (e : Entry) : genericRow (genericInstr w e) = some w := by
  cases w <;> rfl

theorem syncRow_syncInstr (w : Bool) (k : Strat) (e : Entry) :
    syncRow (syncInstr w k e) = some (w, if k = .syncPhi0Skip then .syncPhi0Skip else .syncPhi0) := by
  cases w <;> cases k <;> rfl

/-- The wait that the row of `strat` loads is the one R156 computes from `strat`. -/
@[simp] theorem waitOf_row (c : Config) (k : Strat) :
    waitOf c (if k = .syncPhi0Skip then .syncPhi0Skip else .syncPhi0) = waitOf c k := by
  cases k <;> rfl

/-! ## The step -/

theorem step_reset {s : State} (h : s.input.rstN = false) : step s = .next s.resetTick.advance := by
  simp [step, h]

theorem step_refused {s : State} {r : Refusal} (h : s.input.rstN = true) (hd : s.dutyBroken = some r) :
    step s = .refused r := by
  simp [step, h, hd]

theorem step_nothing {s : State} (h : s.input.rstN = true) (hd : s.dutyBroken = none) (hf : s.fetch = .nothing) :
    step s = .next s.clearValid.advance := by
  simp [step, h, hd, hf]

theorem step_reserved {s : State} (h : s.input.rstN = true) (hd : s.dutyBroken = none) (hf : s.fetch = .reserved) :
    step s = .next s.reservedTick.advance := by
  simp [step, h, hd, hf]

theorem step_instr {s : State} {i : Instr} (h : s.input.rstN = true) (hd : s.dutyBroken = none)
    (hf : s.fetch = .instr i) : step s = advanceOutcome (exec i s) := by
  simp [step, h, hd, hf]

@[simp] theorem advanceOutcome_next (s : State) : advanceOutcome (.next s) = .next s.advance := rfl

theorem advanceOutcome_eq_next {o : Host.Outcome State Fault Refusal} {t : State} (h : advanceOutcome o = .next t) :
    ∃ u, o = .next u ∧ t = u.advance := by
  cases o with
  | next u => exact ⟨u, rfl, (Host.Outcome.next.inj h).symm⟩
  | fault f => cases h
  | refused r => cases h

/-- Everything a step that answers a next state can have done. -/
theorem step_cases {s t : State} (h : step s = .next t) :
    (s.input.rstN = false ∧ t = s.resetTick.advance) ∨
    (s.input.rstN = true ∧ s.dutyBroken = none ∧
      ((s.fetch = .nothing ∧ t = s.clearValid.advance) ∨
       (s.fetch = .reserved ∧ t = s.reservedTick.advance) ∨
       ∃ i u, s.fetch = .instr i ∧ exec i s = .next u ∧ t = u.advance)) := by
  cases hr : s.input.rstN with
  | false => exact .inl ⟨rfl, (Host.Outcome.next.inj ((step_reset hr).symm.trans h)).symm⟩
  | true =>
    refine .inr ⟨rfl, ?_⟩
    cases hd : s.dutyBroken with
    | some r => cases (step_refused hr hd).symm.trans h
    | none =>
      refine ⟨rfl, ?_⟩
      cases hf : s.fetch with
      | nothing => exact .inl ⟨rfl, (Host.Outcome.next.inj ((step_nothing hr hd hf).symm.trans h)).symm⟩
      | reserved => exact .inr (.inl ⟨rfl, (Host.Outcome.next.inj ((step_reserved hr hd hf).symm.trans h)).symm⟩)
      | instr i =>
        obtain ⟨u, hu, ht⟩ := advanceOutcome_eq_next ((step_instr hr hd hf).symm.trans h)
        exact .inr (.inr ⟨i, u, rfl, hu, ht⟩)

/-- No duty is broken at a tick with GEN_DONE = 0. -/
theorem dutyBroken_of_silent {s : State} (h : s.input.genDone = false) : s.dutyBroken = none := by
  simp [State.dutyBroken, h]

/-- A GEN_DONE pulse in GEN after the span's first tick keeps the duties. -/
theorem dutyBroken_of_done {s : State} (h : s.st = .gen) (hf : s.genFirst = false) : s.dutyBroken = none := by
  simp [State.dutyBroken, h, hf]

/-! ## Runs -/

theorem runs_zero {s t : State} : Runs 0 s t ↔ t = s :=
  ⟨fun h => (Host.Outcome.next.inj h).symm, fun h => h ▸ rfl⟩

theorem run_succ (M : Host.Core) (n : Nat) (s : M.State) :
    M.run (n + 1) s = match M.step s with
      | .next u => M.run n u
      | .fault r => .fault r
      | .refused r => .refused r := by
  cases h : M.step s <;> simp only [Host.Core.run, h]

/-- A run of one more tick starts with a step. -/
theorem runs_succ {n : Nat} {s t : State} : Runs (n + 1) s t ↔ ∃ u, step s = .next u ∧ Runs n u t := by
  have hs : Sys2Proof.core.step s = step s := rfl
  constructor
  · intro hr
    have h := (run_succ Sys2Proof.core n s).symm.trans hr
    rw [hs] at h
    cases hstep : step s with
    | next u => rw [hstep] at h; exact ⟨u, rfl, h⟩
    | fault r => rw [hstep] at h; cases h
    | refused r => rw [hstep] at h; cases h
  · rintro ⟨u, hu, hr⟩
    refine (run_succ Sys2Proof.core n s).trans ?_
    rw [hs, hu]
    exact hr

theorem runs_of_step {n : Nat} {s u t : State} (h : step s = .next u) (hr : Runs n u t) : Runs (n + 1) s t :=
  runs_succ.mpr ⟨u, h, hr⟩

theorem runs_one {s t : State} : Runs 1 s t ↔ step s = .next t := by
  rw [runs_succ]
  exact ⟨fun ⟨u, hu, hr⟩ => by rw [runs_zero.mp hr]; exact hu, fun h => ⟨t, h, runs_zero.mpr rfl⟩⟩

/-- Runs are deterministic. -/
theorem runs_unique {n : Nat} {s t u : State} (ht : Runs n s t) (hu : Runs n s u) : t = u :=
  Host.Outcome.next.inj (ht.symm.trans hu)

/-- A run splits at any tick. -/
theorem runs_add {m n : Nat} {s t : State} : Runs (m + n) s t ↔ ∃ u, Runs m s u ∧ Runs n u t := by
  induction m generalizing s with
  | zero =>
    rw [Nat.zero_add]
    exact ⟨fun h => ⟨s, runs_zero.mpr rfl, h⟩, fun ⟨u, hu, h⟩ => by rwa [runs_zero.mp hu] at h⟩
  | succ m ih =>
    rw [Nat.succ_add, runs_succ]
    constructor
    · rintro ⟨v, hv, h⟩
      obtain ⟨u, hu, h⟩ := ih.mp h
      exact ⟨u, runs_of_step hv hu, h⟩
    · rintro ⟨u, hu, h⟩
      obtain ⟨v, hv, hu⟩ := runs_succ.mp hu
      exact ⟨v, hv, ih.mpr ⟨u, hu, h⟩⟩

/-- Quiet ticks stay quiet one tick later. -/
theorem quiet_tail {s : State} {n : Nat} (h : s.quiet (n + 1)) : s.advance.quiet n := by
  intro k hk
  rw [State.advance_inputAt]
  exact h (k + 1) (by omega)

theorem quiet_le {s : State} {m n : Nat} (h : s.quiet n) (hm : m ≤ n) : s.quiet m :=
  fun k hk => h k (lt_of_lt_of_le hk hm)

end Sys2Proof.Machine
end

