-- ==== Sys2Proof/Tests/Slice0.lean ====
section
/-!
SUPPORT. Tests: ill-formed terms that the checks refuse, words written out from spec/30_encoding.md and
spec/95_test_vectors.md, one tick of each instruction from the spec's vectors, and a witness for every obligation with
hypotheses. The configurations are the illustrative ones of spec/95_test_vectors.md section 0.
-/

namespace Sys2Proof.Tests

open Sys2Proof.Machine

/-! ## Configurations and small states -/

/-- M1 of spec/95_test_vectors.md. -/
def bitmapM1 : Vector MapEntry 8 :=
  #v[⟨0, 3, true⟩, ⟨2, 0, true⟩, ⟨1, 7, true⟩, ⟨0, 5, true⟩, ⟨1, 1, true⟩, ⟨2, 6, true⟩, ⟨0, 0, true⟩, ⟨1, 4, true⟩]

def tableT1 : List Entry :=
  [⟨0x0400, 0x0400, .syncPhi0Skip, .syncPhi0Skip⟩, ⟨0x0000, 0x0800, .default, .default⟩, ⟨0, 0, .default, .default⟩]

def tableT3 : List Entry :=
  [⟨0x1000, 0x0100, .syncPhi0, .syncPhi0⟩, ⟨0, 0, .default, .default⟩, ⟨0x0000, 0xFFFF, .reserved, .reserved⟩]

def tableT4 : List Entry :=
  [⟨0x1000, 0x0100, .syncPhi0, .syncPhi0⟩, ⟨0x4000, 0x0010, .reserved, .default⟩, ⟨0, 0, .default, .default⟩]

def tableT5 : List Entry := [⟨0xFF00, 0x0200, .syncPhi0, .default⟩, ⟨0, 0, .default, .default⟩]

def tableT6 : List Entry := [⟨0x0000, 0xFFFF, .syncPhi0, .syncPhi0⟩, ⟨0, 0, .default, .default⟩]

def tableT8 : List Entry := [⟨0x0100, 0x0001, .syncPhi0Skip, .syncPhi0⟩]

/-- P1 with the table `t`. -/
def configP1 (t : List Entry) : Config :=
  { Config.least with
    table := t, bitmap := bitmapM1, tFirst := 2, tRuler := 11, tWait := 2, tWaitSkip := 12, tHigh := 2,
    pollBudget := 64 }

def cfgT1 : WfConfig := ⟨configP1 tableT1, by decide⟩

def cfgT3 : WfConfig := ⟨configP1 tableT3, by decide⟩

def cfgT4 : WfConfig := ⟨configP1 tableT4, by decide⟩

/-- The least timing, table T4, POLL_BUDGET = 1: what the witnesses run on. -/
def cfgLow1 : WfConfig := ⟨{ Config.least with table := tableT4 }, by decide⟩

def cfgLow2 : WfConfig := ⟨{ Config.least with table := tableT4, pollBudget := 2 }, by decide⟩

def cfgLow4 : WfConfig := ⟨{ Config.least with table := tableT4, pollBudget := 4 }, by decide⟩

/-- A build without the synchronized cycle. -/
def cfgNoSync : WfConfig := ⟨{ configP1 tableT1 with syncSupported := false }, by decide⟩

/-- POLL_BUDGET = NONE. -/
def cfgNone : WfConfig := ⟨{ configP1 tableT3 with pollUnbounded := true, pollWNone := 3 }, by decide⟩

/-- A sample with nothing offered, phi0 at `level`, and the ports of V-S1. -/
def sample (level : Bool) : Input where
  rstN := true
  cmdValid := false
  cmd := 0#48
  phi0 := level
  ports := #v[0xF7, 0x6F, 0xBF, 0x00]
  genDone := false
  genRdata := 0x3C
  genPinAddr := 0x0900
  genPinDout := 0x5A
  genPinDir := false
  genPinRw := true
  genPinPhi2 := false

/-- A sample that offers the word `w`. -/
def offering (w : CmdWord) : Input := { sample false with cmdValid := true, cmd := w }

/-- A sample with GEN_DONE = 1. -/
def done : Input := { sample false with genDone := true }

/-- A state of an instance in FSM state `st`, with the samples `ins` to come. -/
def at' (c : WfConfig) (st : FsmState) (ins : List Input) : State := { State.resetOf c with st := st, inputs := ins }

/-- The access latched for address `a`: a read, or a write of 0x5A. -/
def latched (w : Bool) (a : Addr) (s : State) : State :=
  { s with op := if w then 0b01#2 else 0b00#2, addr := a, wdata := if w then 0x5A#8 else 0x00#8 }

/-- A state on the bus of the synchronized access of 0x1000. -/
def onBus (w : Bool) (k : Strat) (c : WfConfig) (st : FsmState) (ins : List Input) : State :=
  { latched w 0x1000#16 (at' c st ins) with
    strat := k, addrR := 0x1000#16, dirR := w, rwR := !w, doutR := 0x5A#8, phi2R := decide (st = .high) }

/-! ## Well-formedness: each check refuses an ill-formed term -/

theorem test_wf_accepts_P1 : (configP1 tableT1).wellFormed = true := by decide

theorem test_wf_refuses_map_port :
    { configP1 tableT1 with bitmap := bitmapM1.set 0 ⟨3, 3, true⟩ }.mapPortsOk = false := by decide

theorem test_wf_refuses_repeated_map_pair :
    { configP1 tableT1 with bitmap := bitmapM1.set 0 ⟨2, 0, false⟩ }.mapInjective = false := by decide

theorem test_wf_refuses_num_ports :
    { configP1 tableT1 with numPorts := 2 }.numPortsOk = false ∧
      { configP1 tableT1 with numPorts := 5 }.numPortsOk = false := by decide

theorem test_wf_refuses_zero_timing :
    { configP1 tableT1 with cPoll := 0 }.timingOk = false ∧ { configP1 tableT1 with tFirst := 0 }.timingOk = false ∧
      { configP1 tableT1 with tRuler := 0 }.timingOk = false ∧ { configP1 tableT1 with tWait := 0 }.timingOk = false ∧
      { configP1 tableT1 with tWaitSkip := 0 }.timingOk = false ∧
      { configP1 tableT1 with tHigh := 0 }.timingOk = false ∧
      { configP1 tableT1 with tDispatch := 0 }.timingOk = false := by decide

theorem test_wf_refuses_zero_budget : { configP1 tableT1 with pollBudget := 0 }.budgetOk = false := by decide

theorem test_wf_refuses_empty_table : (configP1 []).tableOk = false := by decide

theorem test_wf_needs_every_check :
    { configP1 tableT1 with bitmap := bitmapM1.set 0 ⟨3, 3, true⟩ }.wellFormed = false ∧
      { configP1 tableT1 with bitmap := bitmapM1.set 0 ⟨2, 0, false⟩ }.wellFormed = false ∧
      { configP1 tableT1 with numPorts := 5 }.wellFormed = false ∧
      { configP1 tableT1 with tHigh := 0 }.wellFormed = false ∧
      { configP1 tableT1 with pollBudget := 0 }.wellFormed = false ∧ (configP1 []).wellFormed = false := by decide

theorem test_asm_refuses_large_operands :
    assemble (.rd (2 ^ 32)) = none ∧ assemble (.wr 0x0500 256) = none ∧ assemble (.wr (2 ^ 32) 0) = none ∧
      assemble (.lk (2 ^ 32)) = none ∧ assemble (.memoryRead (2 ^ 32)) = none ∧
      assemble (.memoryWrite 0 256) = none ∧ assemble (.lookup (2 ^ 32)) = none ∧
      assemble (.entry (2 ^ 16) 0 .default .default) = none ∧
      assemble (.entry 0 (2 ^ 16) .default .default) = none := by decide

/-! ## Decoding: words written out from the spec's encodings -/

/-- R96, R113: ADDR_IN in 47:16, WDATA in 15:8, RSVD in 7:2, OP in 1:0. -/
theorem test_decode_rd : decodeCmd 0x000005000000#48 = .ok (.rd 0x00000500#32 0x00#8) := by decide

theorem test_decode_wr : decodeCmd 0x00000500A501#48 = .ok (.wr 0x00000500#32 0xA5#8) := by decide

theorem test_decode_lk : decodeCmd 0x000105000002#48 = .ok (.lk 0x00010500#32 0x00#8) := by decide

/-- spec/95_test_vectors.md section 2: the reserved words. -/
theorem test_decode_reserved :
    decodeCmd 0x000005000003#48 = .error .reservedOp ∧ decodeCmd 0x000005000004#48 = .error .reservedBits ∧
      decodeCmd 0x000005000006#48 = .error .reservedBits ∧ decodeCmd 0x000000000080#48 = .error .reservedBits := by
  decide

/-- The first entry of T1: 0xA_0400_0400 is WS = 10, RS = 10, LENGTH = START = 0x0400. -/
theorem test_decode_entry_T1 :
    decode (.readEntry 0xA04000400#36) = .ok (.rsSyncPhi0Skip 0x0400#16 0x0400#16 .syncPhi0Skip) ∧
      decode (.writeEntry 0xA04000400#36) = .ok (.wsSyncPhi0Skip 0x0400#16 0x0400#16 .syncPhi0Skip) := by decide

/-- The second entry of T1: 0x0_0800_0000. -/
theorem test_decode_entry_default :
    decode (.readEntry 0x008000000#36) = .ok (.rsDefault 0x0000#16 0x0800#16 .default) ∧
      decode (.writeEntry 0x008000000#36) = .ok (.wsDefault 0x0000#16 0x0800#16 .default) := by decide

/-- RS = 01 in bits 33:32 and WS = 01 in bits 35:34 (R102), START 0x1000, LENGTH 0x0100. -/
theorem test_decode_entry_sync :
    decode (.readEntry 0x101001000#36) = .ok (.rsSyncPhi0 0x1000#16 0x0100#16 .default) ∧
      decode (.writeEntry 0x401001000#36) = .ok (.wsSyncPhi0 0x1000#16 0x0100#16 .default) ∧
      decode (.readEntry 0x300104000#36) = .error .reservedStrategy ∧
      decode (.writeEntry 0xC00104000#36) = .error .reservedStrategy := by decide

/-- The MAP bytes of M1, and 0x0C with INV = 0 (V-B1). -/
theorem test_decode_map :
    bitmapM1.toList = [0x2C#6, 0x22#6, 0x3D#6, 0x34#6, 0x25#6, 0x3A#6, 0x20#6, 0x31#6].map MapEntry.ofWord ∧
      MapEntry.ofWord 0x0C#6 = ⟨0, 3, false⟩ := by decide

/-- The rows of the opcode table, each by its match word with other free bits 0. -/
theorem test_table_words :
    decodeTableWord 48 0x0 = some (.rd 0 0) ∧ decodeTableWord 48 0x1 = some (.wr 0 0) ∧
      decodeTableWord 48 0x2 = some (.lk 0 0) ∧ decodeTableWord 8 0x2 = some (.lk 0 0) ∧
      decodeTableWord 40 0x0 = some (.rsDefault 0 0 .default) ∧
      decodeTableWord 40 0x100000000 = some (.rsSyncPhi0 0 0 .default) ∧
      decodeTableWord 40 0x200000000 = some (.rsSyncPhi0Skip 0 0 .default) ∧
      decodeTableWord 40 0x300000000 = some (.wsDefault 0 0 .reserved) ∧
      decodeTableWord 40 0x400000000 = some (.wsSyncPhi0 0 0 .default) ∧
      decodeTableWord 40 0x800000000 = some (.wsSyncPhi0Skip 0 0 .default) ∧
      decodeTableWord 40 0x1000000000 = none ∧ decodeTableWord 48 0x3 = none := by decide

/-- The very next step runs the row's word: the accepted command, or the first tick of the cycle. -/
theorem test_withFetchWord :
    (State.reset.withFetchWord 48 0x00000500A501).fetch = .instr (.wr 0x00000500#32 0xA5#8) ∧
      (State.reset.withFetchWord 40 0x108000400).fetch = .instr (.rsSyncPhi0 0x0400#16 0x0800#16 .default) ∧
      (State.reset.withFetchWord 40 0x808000400).fetch = .instr (.wsSyncPhi0Skip 0x0400#16 0x0800#16 .default) ∧
      (State.reset.withFetchWord 40 0x008000400).fetch = .instr (.rsDefault 0x0400#16 0x0800#16 .default) :=
  ⟨rfl, rfl, rfl, rfl⟩

/-! ## Lookup and reassembly (V-L1, V-B1) -/

theorem test_lookup_V_L1 :
    lookup (configP1 tableT1) 0x03FF#16 = (.default, .default) ∧
      lookup (configP1 tableT1) 0x0400#16 = (.syncPhi0Skip, .syncPhi0Skip) ∧
      lookup (configP1 tableT1) 0x07FF#16 = (.syncPhi0Skip, .syncPhi0Skip) ∧
      lookup (configP1 tableT1) 0x0800#16 = (.default, .default) ∧
      lookup (configP1 tableT3) 0x2000#16 = (.default, .default) ∧
      lookup (configP1 tableT4) 0x4000#16 = (.reserved, .default) ∧
      lookup (configP1 tableT5) 0xFFFF#16 = (.syncPhi0, .default) ∧
      lookup (configP1 tableT5) 0x00FF#16 = (.default, .default) ∧
      lookup { configP1 tableT5 with rangeArith := .wrap16 } 0xFFFF#16 = (.default, .default) ∧
      lookup (configP1 tableT6) 0xFFFE#16 = (.syncPhi0, .syncPhi0) ∧
      lookup (configP1 tableT6) 0xFFFF#16 = (.default, .default) ∧
      lookup (configP1 tableT8) 0x0100#16 = (.syncPhi0Skip, .syncPhi0) ∧
      lookup (configP1 tableT8) 0x0101#16 = (.default, .default) := by decide

theorem test_reassemble_V_B1 :
    reassemble (configP1 tableT1) [0xF7, 0x6F, 0xBF] = 0xA5#8 ∧
      reassemble (configP1 tableT1) [0xDE, 0xFD, 0xFE] = 0x5A#8 ∧
      reassemble (configP1 tableT1) [0x29, 0x92, 0x41] = 0x00#8 ∧
      reassemble (configP1 tableT1) [0xD6, 0x6D, 0xBE] = 0xFF#8 ∧
      reassemble (configP1 tableT1) [0x00, 0x00, 0x00] = 0xFF#8 ∧
      reassemble { configP1 tableT1 with bitmap := bitmapM1.set 0 ⟨0, 3, false⟩ } [0xF7, 0x6F, 0xBF] = 0xA4#8 := by
  decide

/-! ## One tick of each instruction, from the spec's vectors -/

/-- V-S1, tick 0: RD 0x1000 is accepted and latched. -/
theorem test_rd_accepted : ∃ t, step (at' cfgT3 .idle [offering 0x000010000000#48]) = .next t ∧
    t.st = .dispatch ∧ t.op = 0b00#2 ∧ t.addr = 0x1000#16 := ⟨_, rfl, by decide⟩

/-- V-D2: RD 0x4000 with T4 ends in NotImplemented, RSP 0x000001. -/
theorem test_rd_fails_closed : ∃ t, exec (.rd 0x4000#32 0#8) (latched false 0x4000#16 (at' cfgT4 .dispatch [])) = .next t ∧
    t.st = .idle ∧ t.rspValid = true ∧ t.rspWord = 0x000001#24 := ⟨_, rfl, by decide⟩

/-- Program 3: WR 0x4000, 0x77 is accepted with its data byte. -/
theorem test_wr_accepted : ∃ t, step (at' cfgT4 .idle [offering 0x000040007701#48]) = .next t ∧
    t.st = .dispatch ∧ t.op = 0b01#2 ∧ t.addr = 0x4000#16 ∧ t.wdata = 0x77#8 := ⟨_, rfl, by decide⟩

/-- V-D2: WR 0x4000 with T4 is a generic write. -/
theorem test_wr_routes_to_gen : ∃ t, exec (.wr 0x4000#32 0x77#8) (latched true 0x4000#16 (at' cfgT4 .dispatch [])) = .next t ∧
    t.st = .gen ∧ t.strat = .default := ⟨_, rfl, by decide⟩

/-- E1: LK 0x0500 with T1 gives RSP 0x0A0000. -/
theorem test_lk_responds : ∃ t, exec (.lk 0x0500#32 0#8) (latched false 0x0500#16 (at' cfgT1 .dispatch [])) = .next t ∧
    t.st = .idle ∧ t.rspValid = true ∧ t.rspWord = 0x0A0000#24 := ⟨_, rfl, by decide⟩

/-- V-G1, tick 5: the generic read of 0x0900 ends with RSP 0x003C04. -/
theorem test_rsDefault_done : ∃ t,
    exec (.rsDefault 0 0 .default) (latched false 0x0900#16 (at' cfgT1 .gen [done])) = .next t ∧
    t.st = .idle ∧ t.rspWord = 0x003C04#24 ∧ t.rwR = true ∧ t.addrR = 0x0900#16 ∧ t.dirR = false :=
  ⟨_, rfl, by decide⟩

/-- V-G2, tick 4: the generic write of 0x5A to 0x0900 ends with RSP 0x000000. -/
theorem test_wsDefault_done : ∃ t,
    exec (.wsDefault 0 0 .default) (latched true 0x0900#16 (at' cfgT1 .gen [done])) = .next t ∧
    t.st = .idle ∧ t.rspWord = 0x000000#24 ∧ t.rwR = true ∧ t.addrR = 0x0900#16 ∧ t.dirR = true ∧ t.doutR = 0x5A#8 :=
  ⟨_, rfl, by decide⟩

/-- V-S1, tick 45: the fine lock, poll 12, loads cnt 1. -/
theorem test_rsSyncPhi0_locks : ∃ t, exec (.rsSyncPhi0 0 0 .default)
    { onBus false .syncPhi0 cfgT3 .fine [sample false] with polls := 11 } = .next t ∧
    t.st = .wait ∧ t.cnt = 1 ∧ t.polls = 12 := ⟨_, rfl, by decide⟩

/-- V-S1, tick 50: the snapshot (0xF7, 0x6F, 0xBF) is reassembled to 0xA5. -/
theorem test_rsSyncPhi0_samples : ∃ t, exec (.rsSyncPhi0 0 0 .default)
    (onBus false .syncPhi0 cfgT3 .samp [sample false]) = .next t ∧ t.st = .fin ∧ t.scratch = 0xA5#8 :=
  ⟨_, rfl, by decide⟩

/-- V-S2, tick 45: the skip wait loads cnt 11. -/
theorem test_rsSyncPhi0Skip_locks : ∃ t, exec (.rsSyncPhi0Skip 0 0 .default)
    (onBus false .syncPhi0Skip cfgT1 .fine [sample false]) = .next t ∧ t.st = .wait ∧ t.cnt = 11 := ⟨_, rfl, by decide⟩

/-- V-S2, tick 61: FIN responds RSP 0x00A504. -/
theorem test_rsSyncPhi0Skip_responds : ∃ t, exec (.rsSyncPhi0Skip 0 0 .default)
    { onBus false .syncPhi0Skip cfgT1 .fin [sample false] with scratch := 0xA5#8 } = .next t ∧
    t.st = .idle ∧ t.rspValid = true ∧ t.rspWord = 0x00A504#24 := ⟨_, rfl, by decide⟩

/-- Program 2: SETUP of WR 0x1000, 0x5A. -/
theorem test_wsSyncPhi0_sets_up : ∃ t, exec (.wsSyncPhi0 0 0 .default)
    (latched true 0x1000#16 (at' cfgT3 .setup [sample true])) = .next t ∧
    t.st = .clow ∧ t.rwR = false ∧ t.addrR = 0x1000#16 ∧ t.dirR = true ∧ t.doutR = 0x5A#8 := ⟨_, rfl, by decide⟩

/-- V-A1 (for the write of V-A5), tick 6: poll 4 of 4 misses. -/
theorem test_wsSyncPhi0_aborts : ∃ t, exec (.wsSyncPhi0 0 0 .default)
    { onBus true .syncPhi0 cfgLow4 .clow [sample true] with polls := 3 } = .next t ∧
    t.st = .fin ∧ t.finStatus = .noClockDetected ∧ t.polls = 4 ∧ t.dirR = true := ⟨_, rfl, by decide⟩

/-- A hit wins over exhaustion at the budget's last poll in CLOW (R153, D14), as in FINE (V-A4); the cycle polls on, and its
next miss aborts (log 6). -/
theorem test_last_poll : ∃ t u v,
    exec (.rsSyncPhi0 0 0 .default) (onBus false .syncPhi0 cfgLow1 .clow [sample false]) = .next t ∧
    t.st = .chigh ∧ t.polls = 1 ∧
    exec (.rsSyncPhi0 0 0 .default) { t with inputs := [sample true] } = .next u ∧ u.st = .fine ∧
    exec (.rsSyncPhi0 0 0 .default) { t with inputs := [sample false] } = .next v ∧
    v.st = .fin ∧ v.finStatus = .noClockDetected :=
  ⟨_, _, _, rfl, by decide, by decide, rfl, by decide, rfl, by decide⟩

/-- V-S3, tick 57: the end of the wait raises PHI2. -/
theorem test_wsSyncPhi0Skip_pulses : ∃ t, exec (.wsSyncPhi0Skip 0 0 .default)
    (onBus true .syncPhi0Skip cfgT1 .wait [sample false]) = .next t ∧ t.st = .high ∧ t.phi2R = true ∧ t.cnt = 1 :=
  ⟨_, rfl, by decide⟩

/-- V-S3, tick 61: FIN responds RSP 0x000000, RW is 1 and the data bus still drives. -/
theorem test_wsSyncPhi0Skip_responds : ∃ t, exec (.wsSyncPhi0Skip 0 0 .default)
    (onBus true .syncPhi0Skip cfgT1 .fin [sample false]) = .next t ∧
    t.st = .idle ∧ t.rspWord = 0x000000#24 ∧ t.rwR = true ∧ t.dirR = true ∧ t.doutR = 0x5A#8 := ⟨_, rfl, by decide⟩

/-- V-R1, tick 48: reset in HIGH. -/
theorem test_reset_in_high : ∃ t,
    step (onBus false .syncPhi0 cfgT3 .high [{ sample false with rstN := false }]) = .next t ∧
    t.st = .idle ∧ t.phi2R = false ∧ t.rwR = true ∧ t.dirR = false ∧ t.irqInhibit = false ∧ t.rspValid = false :=
  ⟨_, rfl, by decide⟩

/-! ## Witnesses: states that meet the hypotheses of the obligations, clause by clause -/

/-- An IDLE state in which `w` is offered and then nothing, with no GEN_DONE. -/
def offered (c : WfConfig) (w : CmdWord) : State :=
  at' c .idle [offering w, sample true, sample true, sample true, sample true]

/-- A GEN state of the access of 0x0900, past its first tick. -/
def inGen (w : Bool) (i : Input) : State := latched w 0x0900#16 (at' cfgT1 .gen [i])

/-- The state `k` ticks on. -/
def after (k : Nat) (s : State) : State :=
  match Host.Core.run Sys2Proof.core k s with
  | .next t => t
  | _ => s

theorem eq_after {k : Nat} {s t : State} (h : Runs k s t) : t = after k s := by
  unfold Runs at h
  simp [after, h]

theorem witness_CommandWordsDecodeExactly :
    (∃ i, decodeCmd 0x000000000002#48 = .ok i) ∧ (∃ r, decodeCmd 0x000000000003#48 = .error r) ∧
      (∃ r, decodeCmd 0x000000000004#48 = .error r) := ⟨⟨_, rfl⟩, ⟨_, rfl⟩, ⟨_, rfl⟩⟩

theorem witness_AssemblerTakesExactlyTheLegalOperands :
    (assemble (.rd (2 ^ 32 - 1))).isSome = true ∧ (assemble (.wr (2 ^ 32 - 1) 255)).isSome = true ∧
      (assemble (.lk (2 ^ 32 - 1))).isSome = true ∧ assemble (.rd (2 ^ 32)) = none ∧
      assemble (.wr 0 256) = none ∧ assemble (.entry 0xFFFF 0xFFFF .reserved .syncPhi0) ≠ none ∧
      assemble (.entry 0x10000 0 .default .default) = none ∧ assemble (.entry 0 0x10000 .default .default) = none := by
  decide

/-- Every tick at which the step runs an instruction: IDLE, DISPATCH, GEN, SETUP and FIN. -/
theorem witness_StepRunsTheDecodedInstruction :
    (let s := offered cfgT3 0x000010000000#48
     s.input.rstN = true ∧ s.dutyBroken = none ∧ s.st = .idle ∧ s.input.cmdValid = true ∧
       decodeCmd s.input.cmd = .ok (.rd 0x1000#32 0x00#8)) ∧
    (let s := latched true 0x1000#16 (at' cfgT3 .dispatch [sample true])
     s.input.rstN = true ∧ s.dutyBroken = none ∧ s.st = .dispatch ∧
       decodeCmd s.latchedWord = .ok (.wr 0x1000#32 0x5A#8)) ∧
    (let s := inGen true done
     s.input.rstN = true ∧ s.dutyBroken = none ∧ s.st = .gen ∧
       genericInstr s.isWrite (servingEntry s.conf s.addr) = .wsDefault 0 0 .default) ∧
    (let s := onBus false .syncPhi0 cfgT3 .setup [sample true]
     s.input.rstN = true ∧ s.dutyBroken = none ∧ s.st = .setup ∧
       syncInstr s.isWrite s.strat (servingEntry s.conf s.addr) = .rsSyncPhi0 0x1000#16 0x0100#16 .syncPhi0) ∧
    (let s := onBus true .syncPhi0Skip cfgT3 .fin [sample true]
     s.input.rstN = true ∧ s.dutyBroken = none ∧ s.st.onBus = true) := by decide

theorem witness_LatchKeepsTheCommand :
    decodeCmd 0xFFFF0500A500#48 = .ok (.rd 0xFFFF0500#32 0xA5#8) ∧
      decodeCmd 0xFFFF0500A501#48 = .ok (.wr 0xFFFF0500#32 0xA5#8) ∧
      decodeCmd 0xFFFF0500A502#48 = .ok (.lk 0xFFFF0500#32 0xA5#8) ∧
      decodeCmd 0xFFFF0500A503#48 = .error .reservedOp ∧ decodeCmd 0xFFFF0500A580#48 = .error .reservedBits := by
  decide

theorem witness_StepIsTheFsmStep :
    (let s := at' cfgT1 .clow [{ sample true with rstN := false, genDone := true }]
     s.input.rstN = false) ∧
    (let s := inGen false done
     s.input.rstN = true ∧ s.dutyBroken = none) := by decide

theorem witness_OnlyABrokenDutyStops :
    step (at' cfgT1 .fin [done]) = .refused .genDoneOutsideGen ∧
      step { inGen false done with genFirst := true } = .refused .genDoneAtFirstTick := ⟨rfl, rfl⟩

theorem witness_ResetStepSetsEveryRegister :
    (onBus true .syncPhi0 cfgT3 .high [{ sample false with rstN := false }]).input.rstN = false ∧
      ({ sample false with rstN := false } : Input).rstN = false := by decide

/-- A FINE state of a synchronized read meets the invariant. -/
theorem inv_fine : Inv (onBus false .syncPhi0 cfgT3 .fine [sample true]) := by constructor <;> decide

/-- The invariant does not read the inputs to come. -/
theorem inv_inputs {s : State} (h : Inv s) (ins : List Input) : Inv { s with inputs := ins } :=
  ⟨h.validIdle, h.rdvSuccess, h.rdataZero, h.stratsOnlyLk, h.phi2High, h.rwBus, h.busHeld, h.routed, h.genDefault,
    h.syncOnly, h.finStatusOk, h.cntOk, h.pollsFit, h.pollsOk, h.genFirstGen⟩

/-- A SETUP state of a synchronized read meets the invariant. -/
theorem inv_setup (ins : List Input) : Inv (onBus false .syncPhi0 cfgLow4 .setup ins) :=
  inv_inputs (s := onBus false .syncPhi0 cfgLow4 .setup []) (by constructor <;> decide) ins

theorem inv_setup_low1 (ins : List Input) : Inv (onBus false .syncPhi0 cfgLow1 .setup ins) :=
  inv_inputs (s := onBus false .syncPhi0 cfgLow1 .setup []) (by constructor <;> decide) ins

/-- An IDLE state with a response meets the invariant. -/
theorem inv_responding (w : CmdWord) : Inv { offered cfgT3 w with rspValid := true } :=
  inv_inputs (s := { at' cfgT3 .idle [] with rspValid := true }) (by constructor <;> decide) _

/-- A GEN state meets the invariant. -/
theorem inv_gen (w : Bool) (i : Input) : Inv (inGen w i) := by
  have h : Inv { inGen w (sample true) with inputs := [] } := by cases w <;> constructor <;> decide
  exact inv_inputs h [i]

theorem witness_StepKeepsInv :
    (∃ t, Inv (onBus false .syncPhi0 cfgT3 .fine [sample true]) ∧
      step (onBus false .syncPhi0 cfgT3 .fine [sample true]) = .next t) ∧
    (∃ t, Inv (inGen true done) ∧ step (inGen true done) = .next t) := ⟨⟨_, inv_fine, rfl⟩, ⟨_, inv_gen _ _, rfl⟩⟩

theorem inv_clow : Inv (onBus false .syncPhi0 cfgLow1 .clow []) := by constructor <;> decide

theorem inv_none : Inv (onBus false .syncPhi0 cfgNone .setup []) := by constructor <;> decide

theorem witness_CountersFitTheirWidths :
    (∃ s, Inv s ∧ s.conf.pollUnbounded = false ∧ s.conf.pollBudget < 2 ^ 7) ∧
      (∃ s, Inv s ∧ s.conf.pollUnbounded = false ∧ s.st = .clow) ∧ (∃ s, Inv s ∧ s.conf.pollUnbounded = true) :=
  ⟨⟨_, inv_fine, rfl, by decide⟩, ⟨_, inv_clow, rfl, rfl⟩, ⟨_, inv_none, rfl⟩⟩

theorem witness_IdleIsQuiescent : ∃ s, Inv s ∧ s.st = .idle ∧ s.input.rstN = true ∧ s.input.cmdValid = true :=
  ⟨_, inv_responding 0x000005000002#48, rfl, rfl, rfl⟩

theorem witness_OutputPinsOfTheState :
    (inGen false done).cmdReady = false ∧ (inGen false done).st = .gen ∧
      (at' cfgT1 .clow [sample true]).st ≠ .gen ∧ (at' cfgT1 .clow [sample true]).irqInhibit = true ∧
      (at' cfgT1 .samp [sample true]).irqInhibit = true ∧ (at' cfgT1 .setup [sample true]).irqInhibit = false ∧
      (at' cfgT1 .fin [sample true]).irqInhibit = false ∧ (offered cfgT1 0#48).cmdReady = true ∧
      (inGen true done).st = .gen ∧ (inGen true done).input.rstN = true ∧ (∃ t, step (inGen true done) = .next t) :=
  ⟨by decide, by decide, by decide, by decide, by decide, by decide, by decide, by decide, rfl, rfl, ⟨_, rfl⟩⟩

/-- A step without reset from each FSM state. -/
theorem witness_steps : ∀ st : FsmState, ∃ s t, s.st = st ∧ s.input.rstN = true ∧ step s = .next t := by
  intro st
  cases st
  · exact ⟨at' cfgT1 .idle [sample true], _, rfl, rfl, rfl⟩
  · exact ⟨at' cfgT1 .dispatch [sample true], _, rfl, rfl, rfl⟩
  · exact ⟨inGen true done, _, rfl, rfl, rfl⟩
  · exact ⟨at' cfgT1 .setup [sample true], _, rfl, rfl, rfl⟩
  · exact ⟨at' cfgT1 .clow [sample true], _, rfl, rfl, rfl⟩
  · exact ⟨at' cfgT1 .chigh [sample true], _, rfl, rfl, rfl⟩
  · exact ⟨at' cfgT1 .fine [sample true], _, rfl, rfl, rfl⟩
  · exact ⟨at' cfgT1 .wait [sample true], _, rfl, rfl, rfl⟩
  · exact ⟨at' cfgT1 .high [sample true], _, rfl, rfl, rfl⟩
  · exact ⟨at' cfgT1 .samp [sample true], _, rfl, rfl, rfl⟩
  · exact ⟨at' cfgT1 .fin [sample true], _, rfl, rfl, rfl⟩

theorem witness_RegistersWrittenByEachState :
    (∃ t, step (onBus true .syncPhi0 cfgT3 .samp [sample true]) = .next t) ∧
      (onBus true .syncPhi0 cfgT3 .samp [sample true]).isWrite = true ∧
      (∃ t, step (inGen true done) = .next t) := ⟨⟨_, rfl⟩, rfl, ⟨_, rfl⟩⟩

theorem witness_IdleAcceptsAndLatches :
    (let s := offered cfgT1 0x000005000004#48
     s.st = .idle ∧ s.input.rstN = true ∧ s.input.genDone = false ∧ s.input.cmdValid = true) ∧
    (let s := at' cfgT1 .idle [sample true]
     s.st = .idle ∧ s.input.rstN = true ∧ s.input.genDone = false ∧ s.input.cmdValid = false) := by decide

theorem witness_DispatchCountsDown :
    ({ at' cfgT1 .dispatch [] with cnt := 1 } : State).st = .dispatch ∧
      0 < ({ at' cfgT1 .dispatch [] with cnt := 1 } : State).cnt := by decide

theorem witness_LkReportsTheStrategies :
    (latched false 0x0500#16 (at' cfgT1 .dispatch [])).st = .dispatch ∧
      (latched false 0x0500#16 (at' cfgT1 .dispatch [])).cnt = 0 := by decide

/-- Each route, to a read and to a write: no entry, an entry's code, the reserved code, a build without the cycle. -/
theorem witness_RdAndWrRouteByTheSelectedStrategy :
    (let s := latched false 0x0000#16 (at' cfgT4 .dispatch [])
     s.st = .dispatch ∧ s.cnt = 0 ∧ (lookup s.conf s.addr).1 = .default) ∧
    (let s := latched true 0x4000#16 (at' cfgT4 .dispatch [])
     s.st = .dispatch ∧ s.cnt = 0 ∧ (lookup s.conf s.addr).2 = .default) ∧
    (let s := latched false 0x10FF#16 (at' cfgT3 .dispatch [])
     s.st = .dispatch ∧ s.cnt = 0 ∧ (lookup s.conf s.addr).1 = .syncPhi0 ∧ s.conf.syncSupported = true) ∧
    (let s := latched true 0x0400#16 (at' cfgT1 .dispatch [])
     s.st = .dispatch ∧ s.cnt = 0 ∧ (lookup s.conf s.addr).2 = .syncPhi0Skip ∧ s.conf.syncSupported = true) ∧
    (let s := latched false 0x0500#16 (at' cfgNoSync .dispatch [])
     s.st = .dispatch ∧ s.cnt = 0 ∧ (lookup s.conf s.addr).1 = .syncPhi0Skip ∧ s.conf.syncSupported = false) ∧
    (let s := latched false 0x400F#16 (at' cfgT4 .dispatch [])
     s.st = .dispatch ∧ s.cnt = 0 ∧ (lookup s.conf s.addr).1 = .reserved) := by decide

theorem witness_CommandsRunTheirCycle :
    (latched false 0x0900#16 (at' cfgT1 .dispatch [])).selected false = .default ∧
      (latched false 0x1000#16 (at' cfgT3 .dispatch [])).selected false = .syncPhi0 ∧
      (latched false 0x0500#16 (at' cfgT1 .dispatch [])).selected false = .syncPhi0Skip ∧
      (latched true 0x0900#16 (at' cfgT1 .dispatch [])).selected true = .default ∧
      (latched true 0x1000#16 (at' cfgT3 .dispatch [])).selected true = .syncPhi0 ∧
      (latched true 0x0500#16 (at' cfgT1 .dispatch [])).selected true = .syncPhi0Skip ∧
      (inGen false done).st = .gen ∧
      (onBus false .syncPhi0 cfgT3 .setup []).st = .setup ∧ (onBus false .syncPhi0 cfgT3 .setup []).strat = .syncPhi0 ∧
      (onBus false .syncPhi0Skip cfgT3 .fin []).st.onBus = true ∧
      (onBus false .syncPhi0Skip cfgT3 .fin []).strat = .syncPhi0Skip := by decide

theorem witness_WhereInstructionsHaveNoTick :
    (inGen false done).st ≠ .idle ∧ (inGen false done).st ≠ .dispatch ∧
      genericRow (.wsDefault 0 0 .default) = some true ∧ (at' cfgT1 .setup []).st ≠ .gen ∧
      (at' cfgT1 .setup []).st ≠ .dispatch ∧ syncRow (.rsSyncPhi0 0 0 .default) = some (false, .syncPhi0) ∧
      (at' cfgT1 .idle []).st = .idle ∧ (inGen false done).st = .gen := by decide

theorem quiet_offered (c : WfConfig) (w : CmdWord) {n : Nat} (h : n ≤ 5) : (offered c w).quiet n := by
  intro k hk
  have h5 : k < 5 := by omega
  interval_cases k <;> exact ⟨rfl, rfl⟩

theorem witness_LkRunResponds :
    ∃ (s : State) (a : HostAddr) (d : Byte), s.st = .idle ∧ s.input.cmdValid = true ∧ decodeCmd s.input.cmd = .ok (.lk a d) ∧
      s.quiet (s.conf.tDispatch + 1) :=
  ⟨offered cfgT1 0x000105000002#48, 0x00010500#32, 0#8, rfl, rfl, rfl, quiet_offered _ _ (by decide)⟩

/-- A reserved word, a read of a reserved code, and a write of a synchronized code in a build without the cycle. -/
theorem witness_NotImplementedRunResponds :
    (∃ s : State, s.st = .idle ∧ s.input.cmdValid = true ∧ s.quiet (s.conf.tDispatch + 1) ∧
      ∃ r, decodeCmd s.input.cmd = .error r) ∧
    (∃ (s : State) (a : HostAddr) (d : Byte), s.st = .idle ∧ s.input.cmdValid = true ∧ s.quiet (s.conf.tDispatch + 1) ∧
      decodeCmd s.input.cmd = .ok (.rd a d) ∧ (lookup s.conf (a.extractLsb' 0 16)).1 = .reserved) ∧
    (∃ (s : State) (a : HostAddr) (d : Byte), s.st = .idle ∧ s.input.cmdValid = true ∧ s.quiet (s.conf.tDispatch + 1) ∧
      decodeCmd s.input.cmd = .ok (.wr a d) ∧ (lookup s.conf (a.extractLsb' 0 16)).2 ≠ .default ∧
      s.conf.syncSupported = false) :=
  ⟨⟨offered cfgT1 0x000005000003#48, rfl, rfl, quiet_offered _ _ (by decide), _, rfl⟩,
    ⟨offered cfgT4 0x000040000000#48, 0x4000#32, 0#8, rfl, rfl, quiet_offered _ _ (by decide), rfl, by decide⟩,
    ⟨offered cfgNoSync 0x000005005A01#48, 0x0500#32, 0x5A#8, rfl, rfl, quiet_offered _ _ (by decide), rfl, by decide,
      rfl⟩⟩

theorem witness_NoFallbackToAnotherCycle :
    (∃ t, step (latched false 0x0900#16 (at' cfgT1 .dispatch [sample true])) = .next t ∧ t.st = .gen) ∧
      (∃ t, step (latched true 0x1000#16 (at' cfgT3 .dispatch [sample true])) = .next t ∧ t.st = .setup) :=
  ⟨⟨_, rfl, rfl⟩, ⟨_, rfl, rfl⟩⟩

theorem witness_StateTransitionsOfTheFsm : ∃ s t, s.st = .fine ∧ s.input.rstN = true ∧ step s = .next t :=
  witness_steps .fine |>.imp fun _ h => h

theorem witness_BusyUntilTheResponse :
    (∃ s t, s.st = .fin ∧ s.input.rstN = true ∧ step s = .next t) ∧
      (∃ s t, s.st = .idle ∧ s.input.rstN = true ∧ step s = .next t) := ⟨witness_steps .fin, witness_steps .idle⟩

theorem witness_ResponseHeldUntilTheNext :
    (∃ s t, Inv s ∧ step s = .next t ∧ s.rspValid = true ∧ s.accepts = true ∧ s.input.rstN = true ∧
      t.rspValid = false) ∧
    (∃ s t, Inv s ∧ step s = .next t ∧ t.rspValid = true) :=
  ⟨⟨_, _, inv_responding 0x000005000002#48, rfl, rfl, rfl, rfl, rfl⟩, ⟨_, _, inv_gen true done, rfl, rfl⟩⟩

theorem witness_AddressHighBitsAndIdleDataIgnored :
    (0xFFFF0500A501#48).extractLsb' 0 32 = (0x00000500A501#48).extractLsb' 0 32 ∧
      (0xFFFF0500A501#48).extractLsb' 0 8 = (0x000005000001#48).extractLsb' 0 8 ∧
      (0xFFFF0500A501#48).extractLsb' 16 16 = (0x000005000001#48).extractLsb' 16 16 ∧
      (∃ t, step ((at' cfgT1 .idle []).withInput { sample true with cmd := 0xFFFF0500A501#48 }) = .next t) ∧
      (∃ t, step ((at' cfgT1 .idle []).withInput { sample true with cmd := 0x000005000001#48 }) = .next t) :=
  ⟨by decide, by decide, by decide, ⟨_, rfl⟩, ⟨_, rfl⟩⟩

/-- Ends at 0xFFFF, at 0x10000 and at 0x10100, and no length. -/
theorem witness_RangeMatchOfAnEntry :
    covers .exact17 ⟨0x0000, 0xFFFF, .default, .default⟩ 0xFFFE#16 = true ∧
      covers .exact17 ⟨0x0000, 0xFFFF, .default, .default⟩ 0xFFFF#16 = false ∧
      covers .wrap16 ⟨0x0000, 0xFFFF, .default, .default⟩ 0xFFFE#16 = true ∧
      0x10000 ≤ (0xFF00#16).toNat + (0x0100#16).toNat ∧
      covers .exact17 ⟨0xFF00, 0x0100, .default, .default⟩ 0xFFFF#16 = true ∧
      covers .wrap16 ⟨0xFF00, 0x0100, .default, .default⟩ 0xFFFF#16 = false ∧
      covers .exact17 ⟨0x0000, 0x0000, .default, .default⟩ 0x0000#16 = false := by decide

theorem witness_FirstMatchWins :
    (configP1 tableT4).table = [⟨0x1000, 0x0100, .syncPhi0, .syncPhi0⟩] ++
        ⟨0x4000, 0x0010, .reserved, .default⟩ :: [⟨0, 0, .default, .default⟩] ∧
      covers .exact17 ⟨0x1000, 0x0100, .syncPhi0, .syncPhi0⟩ 0x400F#16 = false ∧
      covers .exact17 ⟨0x4000, 0x0010, .reserved, .default⟩ 0x400F#16 = true := by decide

theorem witness_SentinelEndsTheLookup :
    (configP1 tableT3).table = [⟨0x1000, 0x0100, .syncPhi0, .syncPhi0⟩] ++
        ⟨0, 0, .default, .default⟩ :: [⟨0x0000, 0xFFFF, .reserved, .reserved⟩] ∧
      covers .exact17 ⟨0x1000, 0x0100, .syncPhi0, .syncPhi0⟩ 0x1100#16 = false ∧
      covers .exact17 ⟨0x0100, 0x0001, .syncPhi0Skip, .syncPhi0⟩ 0x0101#16 = false := by decide

theorem witness_GenericCycleCompletes :
    (inGen false done).st = .gen ∧ (inGen false done).input.genDone = true ∧ (inGen true (sample true)).st = .gen ∧
      (inGen true (sample true)).input.genDone = false := by decide

theorem witness_GenStaysUntilDone : (inGen false (sample true)).st = .gen ∧ (inGen false (sample true)).rspValid = false ∧
    (inGen false (sample true)).quiet 1 := ⟨rfl, rfl, by unfold State.quiet; decide⟩

/-- GEN_DONE at the earliest tick its duty allows, and a read and a write of 0x0900 with T1. -/
def genericRun (w : CmdWord) : State := at' cfgT1 .idle [offering w, sample true, sample true, done]

theorem quiet_genericRun (w : CmdWord) : (genericRun w).quiet 3 := by
  intro k hk
  interval_cases k <;> exact ⟨rfl, rfl⟩

theorem witness_GenericRunCompletes :
    (let s := genericRun 0x000009000000#48
     s.st = .idle ∧ s.input.cmdValid = true ∧ decodeCmd s.input.cmd = .ok (.rd 0x0900#32 0#8) ∧
       (lookup s.conf ((0x0900#32).extractLsb' 0 16)).1 = .default ∧ s.conf.tDispatch + 2 = 3 ∧
       (s.inputAt 3).rstN = true ∧ (s.inputAt 3).genDone = true) ∧
    (let s := genericRun 0x000009005A01#48
     s.st = .idle ∧ s.input.cmdValid = true ∧ decodeCmd s.input.cmd = .ok (.wr 0x0900#32 0x5A#8) ∧
       (lookup s.conf ((0x0900#32).extractLsb' 0 16)).2 = .default ∧ s.conf.tDispatch + 2 = 3 ∧
       (s.inputAt 3).rstN = true ∧ (s.inputAt 3).genDone = true) := by decide

/-- The end drive of the write of 0x5A to 0x0900; of a read, with the data register's own value. -/
theorem witness_GenHandsTheBusOver :
    (∃ s t, Inv s ∧ s.st = .gen ∧ s.input.rstN = true ∧ s.input.genDone = true ∧ s.unitEndDrive ∧ s.isWrite = true ∧
      step s = .next t) ∧
    (∃ s t, Inv s ∧ s.st = .gen ∧ s.input.rstN = true ∧ s.input.genDone = true ∧ s.unitEndDrive ∧ s.isWrite = false ∧
      s.input.genPinDout = s.doutR ∧ step s = .next t) := by
  refine ⟨⟨_, _, inv_gen true { done with genPinDir := true }, rfl, rfl, rfl, ?_, rfl, rfl⟩,
    ⟨_, _, inv_gen false { done with genPinDout := Config.doutDraw 0 }, rfl, rfl, rfl, ?_, rfl, rfl, rfl⟩⟩
  · exact fun _ _ => ⟨rfl, rfl, rfl, fun _ => rfl, rfl⟩
  · exact fun _ _ => ⟨rfl, rfl, rfl, fun h => absurd h (by decide), rfl⟩

theorem witness_SetupDrivesTheBus : (onBus false .syncPhi0 cfgT3 .setup []).st = .setup := rfl

/-- In CLOW and CHIGH: counting, a hit at the budget's last poll, before it and past it, the last poll missed, and a miss
with polls left. -/
theorem witness_CoarsePolls :
    syncRow (.wsSyncPhi0Skip 0 0 .default) = some (true, .syncPhi0Skip) ∧
    0 < ({ at' cfgLow4 .clow [sample true] with cnt := 1 } : State).cnt ∧
    (let s := at' cfgLow1 .clow [sample false]
     s.cnt = 0 ∧ s.st = .clow ∧ s.input.phi0 = false ∧ s.conf.pollBudget = s.polls + 1) ∧
    (let s := at' cfgLow2 .chigh [sample true]
     s.cnt = 0 ∧ s.st = .chigh ∧ s.input.phi0 = true ∧ s.polls + 1 < s.conf.pollBudget) ∧
    (let s := { at' cfgLow1 .chigh [sample true] with polls := 1 }
     s.cnt = 0 ∧ s.st = .chigh ∧ s.input.phi0 = true ∧ s.conf.pollUnbounded = false ∧ s.conf.pollBudget = s.polls) ∧
    (let s := { at' cfgLow4 .clow [sample true] with polls := 3 }
     s.cnt = 0 ∧ s.input.phi0 = true ∧ s.conf.pollUnbounded = false ∧ s.conf.pollBudget = s.polls + 1) ∧
    (let s := { at' cfgLow4 .chigh [sample false] with polls := 2 }
     s.cnt = 0 ∧ s.input.phi0 = false ∧ s.polls + 2 = s.conf.pollBudget) ∧
    (let s := at' cfgNone .chigh [sample false]
     s.cnt = 0 ∧ s.input.phi0 = false ∧ s.conf.pollUnbounded = true) := by decide

theorem witness_FineChecks :
    syncRow (.rsSyncPhi0 0 0 .default) = some (false, .syncPhi0) ∧
    syncRow (.rsSyncPhi0Skip 0 0 .default) = some (false, .syncPhi0Skip) ∧
    (let s := { at' cfgLow4 .fine [sample false] with polls := 3 }
     s.st = .fine ∧ s.cnt = 0 ∧ s.input.phi0 = false ∧ s.conf.pollBudget = s.polls + 1) ∧
    (let s := { at' cfgLow4 .fine [sample false] with polls := 4 }
     s.st = .fine ∧ s.cnt = 0 ∧ s.input.phi0 = false ∧ s.conf.pollUnbounded = false ∧ s.conf.pollBudget = s.polls) ∧
    (let s := { at' cfgLow4 .fine [sample true] with polls := 3 }
     s.cnt = 0 ∧ s.input.phi0 = true ∧ s.conf.pollUnbounded = false ∧ s.conf.pollBudget = s.polls + 1) ∧
    (let s := { at' cfgLow4 .fine [sample true] with polls := 2 }
     s.cnt = 0 ∧ s.input.phi0 = true ∧ s.polls + 2 = s.conf.pollBudget) ∧
    (let s := at' cfgNone .fine [sample true]
     s.cnt = 0 ∧ s.input.phi0 = true ∧ s.conf.pollUnbounded = true) ∧
    0 < ({ at' cfgLow4 .fine [sample true] with cnt := 1 } : State).cnt := by decide

theorem witness_WaitHighSampTicks :
    syncRow (.rsSyncPhi0 0 0 .default) = some (false, .syncPhi0) ∧
      syncRow (.wsSyncPhi0 0 0 .default) = some (true, .syncPhi0) ∧
      (at' cfgT1 .wait []).st = .wait ∧ (at' cfgT1 .wait []).cnt = 0 ∧ (at' cfgT1 .high []).st = .high ∧
      (at' cfgT1 .samp []).st = .samp ∧ 0 < ({ at' cfgT1 .high [] with cnt := 1 } : State).cnt := by decide

theorem witness_FinResponds :
    syncRow (.rsSyncPhi0 0 0 .default) = some (false, .syncPhi0) ∧
      syncRow (.wsSyncPhi0 0 0 .default) = some (true, .syncPhi0) ∧ (at' cfgT1 .fin []).st = .fin ∧
      (at' cfgT1 .fin []).finStatus = .success ∧
      ({ at' cfgT1 .fin [] with finStatus := .noClockDetected } : State).finStatus ≠ .success := by decide

/-- A SETUP tick; a FINE check that locks, at its first poll and with all POLL_BUDGET polls made, T_WAIT being 2. -/
theorem witness_SkipDiffersOnlyInTheWait :
    (at' cfgT1 .setup [sample false]).st = .setup ∧
      (let s := at' cfgT1 .fine [sample false]
       s.st.onBus = true ∧ s.st = .fine ∧ s.cnt = 0 ∧ s.input.phi0 = false) ∧
      (let s := { at' cfgT1 .fine [sample false] with polls := 64 }
       s.st.onBus = true ∧ s.st = .fine ∧ s.cnt = 0 ∧ s.input.phi0 = false ∧ s.polls = s.conf.pollBudget ∧
         s.conf.tWait = 2) := by decide

/-- V-B1's first row: every mapped bit shows the data bit of 0xA5, inverted. -/
theorem witness_ReassemblyRecoversTheByte :
    ∀ i : Fin 8, portBit [0xF7, 0x6F, 0xBF] (configP1 tableT1).bitmap[i] =
      xor ((0xA5#8).getLsbD i) (configP1 tableT1).bitmap[i].inv := by decide

theorem witness_BoardCanPresentEveryByte : ([0x00, 0x00, 0x00] : List Byte).length = cfgT1.val.numPorts := by decide

theorem witness_PortsReadOnlyAtTheSnapshot :
    (let s := onBus true .syncPhi0 cfgT3 .samp [sample true]
     ¬ (s.st = .samp ∧ s.cnt = 0 ∧ s.isWrite = false)) ∧
    (#v[0xF7, 0x6F, 0xBF, 0xFF] : Vector Byte 4).toList.take 3 = portSample cfgT1.val (sample true) ∧
    (∃ t, step ((onBus false .syncPhi0 cfgT3 .samp []).withInput (sample true)) = .next t) :=
  ⟨by decide, by decide, ⟨_, rfl⟩⟩

theorem witness_Phi0ReadOnlyAtPolls :
    (let s := at' cfgT1 .wait [sample true]
     ¬ ((s.st = .clow ∨ s.st = .chigh ∨ s.st = .fine) ∧ s.cnt = 0)) ∧
    (let s := { at' cfgT1 .fine [sample true] with cnt := 1 }
     ¬ ((s.st = .clow ∨ s.st = .chigh ∨ s.st = .fine) ∧ s.cnt = 0)) := by decide

theorem witness_BusRegistersMoveOnlyInCycles :
    (∃ s t, s.input.rstN = true ∧ step s = .next t ∧ s.st = .wait ∧ s.phi2R = false ∧ t.phi2R = true) ∧
      (∃ s t, s.input.rstN = true ∧ step s = .next t ∧ s.st = .high ∧ s.phi2R = true ∧ t.phi2R = false) ∧
      (∃ s t, s.input.rstN = true ∧ step s = .next t ∧ s.st = .idle) :=
  ⟨⟨onBus false .syncPhi0 cfgT3 .wait [sample true], _, rfl, rfl, rfl, rfl, rfl⟩,
    ⟨onBus false .syncPhi0 cfgT3 .high [sample true], _, rfl, rfl, rfl, rfl, rfl⟩,
    ⟨at' cfgT1 .idle [sample true], _, rfl, rfl, rfl⟩⟩

/-- A WAIT state of the least timing: the snapshot is two ticks after PHI2 rises. -/
theorem witness_PulseTimeline :
    (let s := onBus false .syncPhi0 cfgLow4 .wait (List.replicate 4 (sample true))
     s.st = .wait ∧ s.phi2R = false ∧ s.finStatus = .success ∧ s.cnt + 1 + s.conf.tHigh + s.conf.tSample + 2 = 4) ∧
    (onBus false .syncPhi0 cfgLow4 .wait (List.replicate 4 (sample true))).quiet 4 :=
  ⟨by decide, by unfold State.quiet; decide⟩

theorem witness_PollBudgetAborts :
    (let s := { onBus false .syncPhi0 cfgLow4 .clow [sample true, sample true] with polls := 3 }
     s.st = .clow ∧ s.input.phi0 = true ∧ s.cnt = 0 ∧ s.conf.pollUnbounded = false ∧ s.conf.pollBudget = s.polls + 1) ∧
    (let s := { onBus false .syncPhi0 cfgLow4 .chigh [sample false, sample true] with polls := 3 }
     s.st = .chigh ∧ s.input.phi0 = false ∧ s.cnt = 0 ∧ s.conf.pollUnbounded = false ∧ s.conf.pollBudget = s.polls + 1) ∧
    (let s := { onBus false .syncPhi0 cfgLow4 .fine [sample true, sample true] with polls := 3 }
     s.st = .fine ∧ s.input.phi0 = true ∧ s.cnt = 0 ∧ s.conf.pollUnbounded = false ∧ s.conf.pollBudget = s.polls + 1) ∧
    (let s := { onBus false .syncPhi0 cfgLow4 .chigh [sample false, sample true] with polls := 4 }
     s.st = .chigh ∧ s.input.phi0 = false ∧ s.cnt = 0 ∧ s.conf.pollUnbounded = false ∧ s.conf.pollBudget = s.polls) ∧
    (∀ st l p, ({ onBus false .syncPhi0 cfgLow4 st [sample l, sample true] with polls := p } : State).quiet 2) :=
  ⟨by decide, by decide, by decide, by decide, fun st l p k hk => by interval_cases k <;> exact ⟨rfl, rfl⟩⟩

/-- The least budget: the ticks that must be quiet are 3. -/
theorem witness_AcquisitionIsBounded :
    (let s := onBus false .syncPhi0 cfgLow1 .clow [sample true, sample true, sample true]
     s.st = .clow ∧ s.cnt = 0 ∧ s.polls = 0 ∧ s.phi2R = false ∧ s.conf.pollUnbounded = false ∧
       (s.conf.pollBudget + 1) * max s.conf.cPoll (max s.conf.tFirst s.conf.tRuler) + 1 = 3) ∧
    (onBus false .syncPhi0 cfgLow1 .clow [sample true, sample true, sample true]).quiet 3 :=
  ⟨by decide, by unfold State.quiet; decide⟩

/-- With the least budget, phi0 stuck HIGH never hits; LOW at the first poll is a hit on the last poll in CLOW. -/
theorem witness_coarseHitOnLastPoll :
    ¬ (onBus false .syncPhi0 cfgLow1 .clow [sample true]).coarseHitOnLastPoll 1 ∧
      (onBus false .syncPhi0 cfgLow1 .clow [sample false]).coarseHitOnLastPoll 1 := by
  refine ⟨?_, 0, _, _, by decide, rfl, rfl, rfl, rfl, .inl ⟨rfl, rfl⟩⟩
  rintro ⟨k, u, v, hk, hu, hv, -, -, h⟩
  obtain rfl : k = 0 := by omega
  rw [eq_after hu, eq_after hv] at h
  exact absurd h (by decide)

theorem witness_BudgetBoundsTheWholeCycle :
    (let s := onBus true .syncPhi0 cfgLow1 .clow (List.replicate 7 (sample true))
     s.st = .clow ∧ s.cnt = 0 ∧ s.polls = 0 ∧ s.phi2R = false ∧ s.finStatus = .success ∧
       s.conf.pollUnbounded = false ∧
       (s.conf.pollBudget + 1) * max s.conf.cPoll (max s.conf.tFirst s.conf.tRuler) +
         (waitOf s.conf s.strat + s.conf.tHigh + s.conf.tSample + 3) = 7) ∧
    (onBus true .syncPhi0 cfgLow1 .clow (List.replicate 7 (sample true))).quiet 7 :=
  ⟨by decide, by unfold State.quiet; decide⟩

/-- Stuck HIGH with the least budget; stuck LOW with a budget of 2, and with the least budget. -/
theorem witness_StuckClockIsDetected :
    (let s := onBus false .syncPhi0 cfgLow1 .clow [sample true, sample true]
     s.st = .clow ∧ s.cnt = 0 ∧ s.polls = 0 ∧ s.phi2R = false ∧ s.conf.pollUnbounded = false ∧
       (s.conf.pollBudget - 1) * s.conf.cPoll + 2 = 2 ∧ (∀ k < 2, (s.inputAt k).phi0 = true)) ∧
    (let s := onBus false .syncPhi0 cfgLow2 .clow [sample false, sample false, sample false]
     s.st = .clow ∧ s.cnt = 0 ∧ s.polls = 0 ∧ s.phi2R = false ∧ s.conf.pollUnbounded = false ∧
       s.conf.pollBudget ≠ 1 ∧ (s.conf.pollBudget - 1) * s.conf.cPoll + 2 = 3 ∧ (∀ k < 3, (s.inputAt k).phi0 = false)) ∧
    (let s := onBus false .syncPhi0 cfgLow1 .clow [sample false, sample false, sample false]
     s.st = .clow ∧ s.cnt = 0 ∧ s.polls = 0 ∧ s.phi2R = false ∧ s.conf.pollUnbounded = false ∧
       s.conf.pollBudget = 1 ∧ 1 * s.conf.cPoll + 2 = 3 ∧ (∀ k < 3, (s.inputAt k).phi0 = false)) ∧
    (onBus false .syncPhi0 cfgLow1 .clow [sample true, sample true]).quiet 2 ∧
    (onBus false .syncPhi0 cfgLow2 .clow [sample false, sample false, sample false]).quiet 3 ∧
    (onBus false .syncPhi0 cfgLow1 .clow [sample false, sample false, sample false]).quiet 3 :=
  ⟨by decide, by decide, by decide, by unfold State.quiet; decide, by unfold State.quiet; decide,
    by unfold State.quiet; decide⟩

theorem witness_UnboundedPollHangs :
    cfgNone.val.pollUnbounded = true ∧
      (∀ k < 2, ((at' cfgNone .clow [sample true, sample true]).inputAt k).phi0 = true) ∧
      (∀ k < 2, ((at' cfgNone .chigh [sample false, sample false]).inputAt k).phi0 = false) ∧
      (at' cfgNone .fine [sample true, sample true]).quiet 2 :=
  ⟨by decide, by decide, by decide, by unfold State.quiet; decide⟩

/-- LOW, HIGH, LOW at the three polls of the least timing. -/
def successRun : State :=
  onBus false .syncPhi0 cfgLow4 .setup
    [sample true, sample false, sample true, sample false, sample true, sample true, sample true, sample true]

/-- HIGH at the one poll of a budget of 1. -/
def abortRun : State := onBus false .syncPhi0 cfgLow1 .setup [sample true, sample true, sample true]

theorem witness_OnePulsePerSuccessfulCycle :
    (∃ t, Inv successRun ∧ Runs 8 successRun t ∧ t.st = .idle ∧ t.rspStatus = .success) ∧
    (∃ t, Inv abortRun ∧ Runs 3 abortRun t ∧ t.st = .idle ∧ t.rspStatus = .noClockDetected) ∧
    (∀ k < 8, (successRun.inputAt k).rstN = true) ∧ (∀ k < 3, (abortRun.inputAt k).rstN = true) ∧
    (∀ k u, k < 8 → Runs k successRun u → u.st ≠ .idle) ∧ (∀ k u, k < 3 → Runs k abortRun u → u.st ≠ .idle) := by
  have h : ∀ k < 8, (after k successRun).st ≠ .idle := by decide
  have h' : ∀ k < 3, (after k abortRun).st ≠ .idle := by decide
  exact ⟨⟨_, inv_setup _, rfl, rfl, rfl⟩, ⟨_, inv_setup_low1 _, rfl, rfl, rfl⟩, by decide, by decide,
    fun k u hk hr => eq_after hr ▸ h k hk, fun k u hk hr => eq_after hr ▸ h' k hk⟩

/-- The least timing with another T_DISPATCH. -/
def cfgLow1Slow : WfConfig := ⟨{ Config.least with table := tableT4, tDispatch := 3 }, by decide⟩

/-- The same cycle after other commands: another poll count, counter, scratch, response, tick and T_DISPATCH. -/
def abortRunLater : State :=
  { abortRun with
    cfg := cfgLow1Slow, polls := 7, cnt := 3, scratch := 0xA5#8, rspRdata := 0xA5#8, rspRdv := true, tick := 100 }

theorem witness_NoDependenceOnWhatCameBefore :
    abortRun.st = .setup ∧ abortRunLater.st = .setup ∧ abortRun.op = abortRunLater.op ∧
      abortRun.addr = abortRunLater.addr ∧ abortRun.wdata = abortRunLater.wdata ∧
      abortRun.strat = abortRunLater.strat ∧
      abortRun.conf = { abortRunLater.conf with tDispatch := abortRun.conf.tDispatch } ∧ abortRun.phi2R = false ∧
      (∃ t, Runs 3 abortRun t ∧ t.st = .idle) ∧ (∃ t, Runs 3 abortRunLater t) ∧
      (∀ k, 1 ≤ k → k < 3 → abortRun.inputAt k = abortRunLater.inputAt k) ∧
      (∀ k < 3, (abortRun.inputAt k).rstN = true ∧ (abortRunLater.inputAt k).rstN = true) ∧
      (∀ k u, k < 3 → Runs k abortRun u → u.st ≠ .idle) := by
  refine ⟨rfl, rfl, rfl, rfl, rfl, rfl, rfl, rfl, ⟨_, rfl, rfl⟩, ⟨_, rfl⟩, ?_, by decide,
    witness_OnePulsePerSuccessfulCycle.2.2.2.2.2⟩
  intro k h1 h3
  obtain rfl | rfl : k = 1 ∨ k = 2 := by omega
  · rfl
  · rfl

/-- phi0 of period 2: LOW at the first CLOW poll, HIGH at the next. -/
theorem witness_CoarseLockIsEarlyInTheHighPhase :
    (let p : Phi0 := ⟨2, 1, 1⟩
     let s := onBus false .syncPhi0 cfgLow4 .clow [sample false, sample true, sample false]
     p.ok ∧ s.st = .clow ∧ s.cnt = 0 ∧ s.nominal p 1 ∧ s.quiet 2 ∧ (∃ t, Runs 1 s t ∧ t.st = .chigh) ∧
       ∃ u, Runs 2 s u ∧ u.st = .fine) :=
  ⟨by unfold Phi0.ok; decide, rfl, rfl, by unfold State.nominal; decide, by unfold State.quiet; decide,
    ⟨_, rfl, rfl⟩, ⟨_, rfl, rfl⟩⟩

/-- T_FIRST = 2, T_RULER = 3 and T_WAIT_SKIP = T_WAIT + 2 against a phi0 of period 2; the least budget that fits. -/
def cfgContract : WfConfig :=
  ⟨{ Config.least with table := tableT4, tFirst := 2, tRuler := 3, tWaitSkip := 3, pollBudget := 2 }, by decide⟩

/-- phi0 is nominal up to the lock at tick 4 and may do anything after it. -/
def fineRun : State :=
  { onBus false .syncPhi0 cfgContract .fine
      [sample false, sample true, sample false, sample true, sample false, sample false] with cnt := 1 }

theorem witness_FineLockWithinOneQuantum :
    (let p : Phi0 := ⟨2, 1, 1⟩
     p.ok ∧ fineRun.st = .fine ∧ fineRun.cnt = fineRun.conf.tFirst - 1 ∧ 0 < min fineRun.conf.cPoll p.high ∧
       p.phase = (0 + 1) % p.period ∧ firstPassShort fineRun.conf p ∧ rulerLonger fineRun.conf p 1 ∧
       ceilDiv (p.high - (0 + fineRun.conf.tFirst) % p.period) 1 = 1 ∧ fineRun.polls + 1 + 1 = fineRun.conf.pollBudget ∧
       fineRun.conf.tFirst - 1 + 1 * fineRun.conf.tRuler = 4 ∧ fineRun.nominal p 4 ∧ fineRun.quiet 5) :=
  ⟨by unfold Phi0.ok; decide, rfl, rfl, by decide, rfl, by unfold firstPassShort; decide,
    by unfold rulerLonger; decide, rfl, rfl, rfl, by unfold State.nominal; decide, by unfold State.quiet; decide⟩

/-- T_WAIT at its bound L_PHI0 - delta, against a phi0 of period 3. -/
def cfgContract3 : WfConfig := ⟨{ Config.least with table := tableT4, tWaitSkip := 4 }, by decide⟩

/-- Both strategies, and the bound on T_WAIT met with equality. -/
theorem witness_PulseLandsBeforeItsTargetEdge :
    (let p : Phi0 := ⟨3, 1, 1⟩
     p.ok ∧ 1 ≤ 1 ∧ 1 ≤ p.low ∧ p.high ≤ 1 ∧ 1 < p.high + 1 ∧
       cfgContract3.val.tWaitSkip = cfgContract3.val.tWait + p.period ∧ cfgContract3.val.tWait + 1 = p.low) ∧
    (let s := onBus false .syncPhi0 cfgContract3 .wait [sample true]
     s.st = .wait ∧ s.phi2R = false ∧ s.cnt = waitOf s.conf s.strat - 1 ∧ waitOf s.conf s.strat = 1) ∧
    (let s := { onBus true .syncPhi0Skip cfgContract3 .wait (List.replicate 4 (sample true)) with cnt := 3 }
     s.st = .wait ∧ s.phi2R = false ∧ s.cnt = waitOf s.conf s.strat - 1 ∧ waitOf s.conf s.strat = 4) ∧
    (onBus false .syncPhi0 cfgContract3 .wait [sample true]).quiet 1 ∧
    ({ onBus true .syncPhi0Skip cfgContract3 .wait (List.replicate 4 (sample true)) with cnt := 3 } : State).quiet 4 :=
  ⟨⟨by unfold Phi0.ok; decide, by decide⟩, by decide, by decide, by unfold State.quiet; decide,
    by unfold State.quiet; decide⟩

end Sys2Proof.Tests
end

section
/-!
PROOFS. The step is the FSM's step of R35 (O9, O7): what the decoder answers on the word offered and on the latched
word, state by state; after it, how the FSM's tick behaves in each state.
-/

namespace Sys2Proof.Machine

/-! ## The command decoder, case by case -/

/-- A command word is one of the three commands, or it is reserved (R97, R98, R109). -/
theorem decodeCmd_cases (w : CmdWord) :
    (cmdRsvd w = 0#6 ∧ cmdOp w = 0b00#2 ∧ decodeCmd w = .ok (.rd (cmdAddrIn w) (cmdWdata w))) ∨
    (cmdRsvd w = 0#6 ∧ cmdOp w = 0b01#2 ∧ decodeCmd w = .ok (.wr (cmdAddrIn w) (cmdWdata w))) ∨
    (cmdRsvd w = 0#6 ∧ cmdOp w = 0b10#2 ∧ decodeCmd w = .ok (.lk (cmdAddrIn w) (cmdWdata w))) ∨
    ((cmdRsvd w ≠ 0#6 ∨ cmdOp w = 0b11#2) ∧ ∃ r, decodeCmd w = .error r) := by
  have hop : ∀ o : BitVec 2, o = 0b00#2 ∨ o = 0b01#2 ∨ o = 0b10#2 ∨ o = 0b11#2 := by decide
  by_cases hr : cmdRsvd w = 0#6
  · rcases hop (cmdOp w) with ho | ho | ho | ho
    · exact .inl ⟨hr, ho, by simp [decodeCmd, hr, ho]⟩
    · exact .inr (.inl ⟨hr, ho, by simp [decodeCmd, hr, ho]⟩)
    · exact .inr (.inr (.inl ⟨hr, ho, by simp [decodeCmd, hr, ho]⟩))
    · exact .inr (.inr (.inr ⟨.inr ho, .reservedOp, by simp [decodeCmd, hr, ho]⟩))
  · exact .inr (.inr (.inr ⟨.inl hr, .reservedBits, by simp [decodeCmd, hr]⟩))

theorem Fetched.ofWord_ok {w : CmdWord} {i : Instr} (h : decodeCmd w = .ok i) : Fetched.ofWord w = .instr i := by
  simp [Fetched.ofWord, h]

theorem Fetched.ofWord_error {w : CmdWord} {r : Reserved} (h : decodeCmd w = .error r) :
    Fetched.ofWord w = .reserved := by
  simp [Fetched.ofWord, h]

/-! ## The word rebuilt from the latch (R36; log 16) -/

@[simp] theorem State.cmdOp_latchedWord (s : State) : cmdOp s.latchedWord = s.op := by
  simp only [cmdOp, State.latchedWord]
  rw [BitVec.extractLsb'_append_eq_right]

theorem State.cmdRsvd_latchedWord (s : State) : cmdRsvd s.latchedWord = if s.rsvdNz then 1#6 else 0#6 := by
  ext i hi
  simp only [cmdRsvd, State.latchedWord, BitVec.getElem_extractLsb', BitVec.getLsbD_append]
  simp [show ¬ 2 + i < 2 by omega, hi]

/-- The rebuilt word has a reserved bit set exactly when the latched command had one. -/
theorem State.cmdRsvd_latchedWord_eq_zero (s : State) : cmdRsvd s.latchedWord = 0#6 ↔ s.rsvdNz = false := by
  rw [cmdRsvd_latchedWord]
  cases s.rsvdNz <;> decide

/-! ## What a tick fetches -/

theorem State.fetch_idle {s : State} (h : s.st = .idle) (hv : s.input.cmdValid = true) :
    s.fetch = Fetched.ofWord s.input.cmd := by
  simp [State.fetch, h, hv]

theorem State.fetch_idle_nothing {s : State} (h : s.st = .idle) (hv : s.input.cmdValid = false) :
    s.fetch = .nothing := by
  simp [State.fetch, h, hv]

theorem State.fetch_dispatch {s : State} (h : s.st = .dispatch) : s.fetch = Fetched.ofWord s.latchedWord := by
  simp [State.fetch, h]

theorem State.fetch_gen {s : State} (h : s.st = .gen) :
    s.fetch = .instr (genericInstr s.isWrite (servingEntry s.conf s.addr)) := by
  simp [State.fetch, h]

theorem State.fetch_sync {s : State} (h : s.st = .setup ∨ s.st.onBus = true) :
    s.fetch = .instr (syncInstr s.isWrite s.strat (servingEntry s.conf s.addr)) := by
  cases hs : s.st <;> simp [hs, FsmState.onBus] at h <;> simp [State.fetch, hs]

/-! ## The FSM's tick in each state (R35) -/

theorem State.fsmTick_idle_nothing {s : State} (h : s.st = .idle) (hv : s.input.cmdValid = false) :
    s.fsmTick = s.clearValid := by
  simp [State.fsmTick, h, hv]

theorem State.fsmTick_idle_accept {s : State} (h : s.st = .idle) (hv : s.input.cmdValid = true) :
    s.fsmTick = s.clearValid.latch (cmdOp s.input.cmd) (decide (cmdRsvd s.input.cmd ≠ 0#6))
      (a16 (cmdAddrIn s.input.cmd)) (cmdWdata s.input.cmd) := by
  simp only [State.fsmTick, State.clearValid_st, h]
  exact if_pos hv

/-- Only the action at the state itself matters to a waiting state. -/
theorem State.whenDone_congr {s : State} {f g : State → State} (h : f s = g s) : s.whenDone f = s.whenDone g := by
  simp only [State.whenDone, h]

theorem State.fsmTick_dispatch_reserved {s : State} (h : s.st = .dispatch) (hr : s.rsvdNz = true ∨ s.op = 0b11#2) :
    s.fsmTick = s.clearValid.dispatchReserved := by
  simp only [State.fsmTick, State.clearValid_st, h]
  exact State.whenDone_congr (if_pos hr)

theorem State.fsmTick_dispatch_lookup {s : State} (h : s.st = .dispatch) (hr : s.rsvdNz = false)
    (ho : s.op = 0b10#2) : s.fsmTick = s.clearValid.dispatchLookup := by
  simp only [State.fsmTick, State.clearValid_st, h]
  exact State.whenDone_congr (by simp [hr, ho])

theorem State.fsmTick_dispatch_access {s : State} (h : s.st = .dispatch) (hr : s.rsvdNz = false)
    (ho : s.op = 0b00#2 ∨ s.op = 0b01#2) : s.fsmTick = s.clearValid.dispatchAccess s.isWrite := by
  simp only [State.fsmTick, State.clearValid_st, h]
  exact State.whenDone_congr (by rcases ho with ho | ho <;> simp [hr, ho])

theorem State.fsmTick_gen {s : State} (h : s.st = .gen) : s.fsmTick = s.clearValid.genTick s.isWrite := by
  simp [State.fsmTick, h]

theorem State.fsmTick_setup {s : State} (h : s.st = .setup) : s.fsmTick = s.clearValid.setupTick s.isWrite := by
  simp [State.fsmTick, h]

theorem State.fsmTick_clow {s : State} (h : s.st = .clow) : s.fsmTick = s.clearValid.clowTick := by
  simp [State.fsmTick, h]

theorem State.fsmTick_chigh {s : State} (h : s.st = .chigh) : s.fsmTick = s.clearValid.chighTick := by
  simp [State.fsmTick, h]

theorem State.fsmTick_fine {s : State} (h : s.st = .fine) : s.fsmTick = s.clearValid.fineTick s.strat := by
  simp [State.fsmTick, h]

theorem State.fsmTick_wait {s : State} (h : s.st = .wait) : s.fsmTick = s.clearValid.waitTick := by
  simp [State.fsmTick, h]

theorem State.fsmTick_high {s : State} (h : s.st = .high) : s.fsmTick = s.clearValid.highTick := by
  simp [State.fsmTick, h]

theorem State.fsmTick_samp {s : State} (h : s.st = .samp) : s.fsmTick = s.clearValid.sampTick s.isWrite := by
  simp [State.fsmTick, h]

theorem State.fsmTick_fin {s : State} (h : s.st = .fin) : s.fsmTick = s.clearValid.finTick s.isWrite := by
  simp [State.fsmTick, h]

/-- In SETUP to FIN the FSM's tick is the synchronized cycle's. -/
theorem State.syncTick_eq_fsmTick {s : State} (h : s.st = .setup ∨ s.st.onBus = true) :
    s.clearValid.syncTick s.isWrite s.strat = some s.fsmTick := by
  cases hs : s.st <;> simp [hs, FsmState.onBus] at h <;> simp [State.syncTick, State.fsmTick, hs]

/-! ## One tick of what is fetched is the FSM's tick -/

/-- The tick of the row of `strat` is that of `strat` itself: the row differs only where FINE counts any strategy but
SYNC_PHI0_SKIP as SYNC_PHI0 (R156; log 12). -/
theorem State.syncTick_row (w : Bool) (k : Strat) (s : State) :
    s.syncTick w (if k = .syncPhi0Skip then .syncPhi0Skip else .syncPhi0) = s.syncTick w k := by
  cases h : s.st <;> simp [State.syncTick, State.fineTick, h]

theorem syncCycle_sync {s : State} (h : s.st = .setup ∨ s.st.onBus = true) (w : Bool) (k : Strat) :
    syncCycle w k s = orNotAtThisTick (s.clearValid.syncTick w k) := by
  cases hs : s.st <;> simp [hs, FsmState.onBus] at h <;> simp [syncCycle, hs]

theorem exec_syncInstr {s : State} (h : s.st = .setup ∨ s.st.onBus = true) (e : Entry) :
    exec (syncInstr s.isWrite s.strat e) s = .next s.fsmTick := by
  rw [exec_sync (syncRow_syncInstr _ _ _), syncCycle_sync h, State.syncTick_row, State.syncTick_eq_fsmTick h,
    orNotAtThisTick]

theorem exec_genericInstr {s : State} (h : s.st = .gen) (e : Entry) :
    exec (genericInstr s.isWrite e) s = .next s.fsmTick := by
  rw [exec_generic (genericRow_genericInstr _ _), genericCycle_gen h, State.fsmTick_gen h]

theorem isWrite_of_op_zero {s : State} (h : s.op = 0b00#2) : s.isWrite = false := by simp [State.isWrite, h]

theorem isWrite_of_op_one {s : State} (h : s.op = 0b01#2) : s.isWrite = true := by simp [State.isWrite, h]

/-- IDLE with a command offered: accept it, whether or not it is reserved (R200, R208). -/
theorem step_idle_accept {s : State} (hr : s.input.rstN = true) (hd : s.dutyBroken = none) (hs : s.st = .idle)
    (hv : s.input.cmdValid = true) : step s = .next s.fsmTick.advance := by
  have hf := State.fetch_idle hs hv
  rw [State.fsmTick_idle_accept hs hv]
  rcases decodeCmd_cases s.input.cmd with ⟨h0, ho, he⟩ | ⟨h0, ho, he⟩ | ⟨h0, ho, he⟩ | ⟨-, r, he⟩
  · rw [step_instr hr hd (hf.trans (Fetched.ofWord_ok he)), exec_rd, accessTick_idle hs]
    simp [h0, ho]
  · rw [step_instr hr hd (hf.trans (Fetched.ofWord_ok he)), exec_wr, accessTick_idle hs]
    simp [h0, ho]
  · rw [step_instr hr hd (hf.trans (Fetched.ofWord_ok he)), execLk_idle hs]
    simp [h0, ho]
  · rw [step_reserved hr hd (hf.trans (Fetched.ofWord_error he))]
    simp [State.reservedTick, hs]

/-- DISPATCH runs the latched command (R201). -/
theorem step_dispatch {s : State} (hr : s.input.rstN = true) (hd : s.dutyBroken = none) (hs : s.st = .dispatch) :
    step s = .next s.fsmTick.advance := by
  have hf := State.fetch_dispatch hs
  have hcases := decodeCmd_cases s.latchedWord
  simp only [State.cmdRsvd_latchedWord_eq_zero, State.cmdOp_latchedWord, ne_eq, Bool.not_eq_false] at hcases
  rcases hcases with ⟨h0, ho, he⟩ | ⟨h0, ho, he⟩ | ⟨h0, ho, he⟩ | ⟨hres, r, he⟩
  · rw [step_instr hr hd (hf.trans (Fetched.ofWord_ok he)), exec_rd, accessTick_dispatch hs,
      State.fsmTick_dispatch_access hs h0 (.inl ho), isWrite_of_op_zero ho, advanceOutcome_next]
  · rw [step_instr hr hd (hf.trans (Fetched.ofWord_ok he)), exec_wr, accessTick_dispatch hs,
      State.fsmTick_dispatch_access hs h0 (.inr ho), isWrite_of_op_one ho, advanceOutcome_next]
  · rw [step_instr hr hd (hf.trans (Fetched.ofWord_ok he)), execLk_dispatch hs,
      State.fsmTick_dispatch_lookup hs h0 ho, advanceOutcome_next]
  · rw [step_reserved hr hd (hf.trans (Fetched.ofWord_error he)), State.fsmTick_dispatch_reserved hs hres]
    simp [State.reservedTick, hs]

/-- Without reset, and with the duties of R137 kept, the step is the FSM's tick. -/
theorem step_eq_fsmTick {s : State} (hr : s.input.rstN = true) (hd : s.dutyBroken = none) :
    step s = .next s.fsmTick.advance := by
  have hsync : s.st = .setup ∨ s.st.onBus = true → step s = .next s.fsmTick.advance := fun h => by
    rw [step_instr hr hd (State.fetch_sync h), exec_syncInstr h, advanceOutcome_next]
  cases hs : s.st with
  | idle =>
    cases hv : s.input.cmdValid with
    | true => exact step_idle_accept hr hd hs hv
    | false =>
      rw [step_nothing hr hd (State.fetch_idle_nothing hs hv), State.fsmTick_idle_nothing hs hv]
  | dispatch => exact step_dispatch hr hd hs
  | gen => rw [step_instr hr hd (State.fetch_gen hs), exec_genericInstr hs, advanceOutcome_next]
  | setup => exact hsync (.inl hs)
  | clow | chigh | fine | wait | high | samp | fin => exact hsync (.inr (by rw [hs]; rfl))

/-- A step that answers a next state answers the FSM's. -/
theorem eq_fsmStep_of_step {s t : State} (h : step s = .next t) : t = s.fsmStep := by
  rcases step_cases h with ⟨hr, rfl⟩ | ⟨hr, hd, -⟩
  · simp [State.fsmStep, hr]
  · rw [step_eq_fsmTick hr hd] at h
    simp [State.fsmStep, hr, Host.Outcome.next.inj h]

/-- Settles O9: reset replaces every step; without it, the decoded instruction's tick is the FSM state's. -/
theorem stepIsTheFsmStep : Obligations.StepIsTheFsmStep := by
  unfold Obligations.StepIsTheFsmStep
  intro s hd
  cases hr : s.input.rstN with
  | false => simp [step_reset hr, State.fsmStep, hr]
  | true => simp [step_eq_fsmTick hr (hd hr), State.fsmStep, hr]

/-- Settles O7: each of the four cases names what the tick fetches. -/
theorem stepRunsTheDecodedInstruction : Obligations.StepRunsTheDecodedInstruction := by
  unfold Obligations.StepRunsTheDecodedInstruction
  rintro s i hr hd (⟨hs, hv, he⟩ | ⟨hs, he⟩ | ⟨hs, rfl⟩ | ⟨hs, rfl⟩)
  · exact step_instr hr hd ((State.fetch_idle hs hv).trans (Fetched.ofWord_ok he))
  · exact step_instr hr hd ((State.fetch_dispatch hs).trans (Fetched.ofWord_ok he))
  · exact step_instr hr hd (State.fetch_gen hs)
  · exact step_instr hr hd (State.fetch_sync hs)

end Sys2Proof.Machine
end

section
/-!
PROOFS. What each FSM state's tick can do, said once more as an inversion: DISPATCH, and the three states that poll phi0
as one; the bounds of a well-formed configuration; what no tick touches before the stream moves on.
-/

namespace Sys2Proof.Machine

/-! ## DISPATCH (R201) -/

/-- DISPATCH counts, ends a reserved word or LK, or routes an access. -/
theorem State.fsmTick_dispatch_cases {s : State} (h : s.st = .dispatch) :
    (0 < s.cnt ∧ s.fsmTick = s.clearValid.count) ∨
    (s.cnt = 0 ∧ (s.rsvdNz = true ∨ s.op = 0b11#2) ∧ s.fsmTick = s.clearValid.raiseNotImplemented) ∨
    (s.cnt = 0 ∧ s.rsvdNz = false ∧ s.op = 0b10#2 ∧
      s.fsmTick = s.clearValid.finish .success none (lookup s.conf s.addr).1 (lookup s.conf s.addr).2) ∨
    (s.cnt = 0 ∧ s.rsvdNz = false ∧ (s.op = 0b00#2 ∨ s.op = 0b01#2) ∧
      s.fsmTick = s.clearValid.route (s.selected s.isWrite)) := by
  have hop : ∀ o : BitVec 2, o = 0b11#2 ∨ o = 0b10#2 ∨ o = 0b00#2 ∨ o = 0b01#2 := by decide
  by_cases hr : s.rsvdNz = true ∨ s.op = 0b11#2
  · rw [State.fsmTick_dispatch_reserved h hr]
    rcases s.clearValid.whenDone_cases State.raiseNotImplemented with ⟨hc, e⟩ | ⟨hc, e⟩
    · exact .inl ⟨hc, e⟩
    · exact .inr (.inl ⟨hc, hr, e⟩)
  · obtain ⟨hr, h3⟩ := not_or.mp hr
    rw [Bool.not_eq_true] at hr
    rcases hop s.op with ho | ho | ho
    · exact absurd ho h3
    · rw [State.fsmTick_dispatch_lookup h hr ho]
      rcases s.clearValid.whenDone_cases _ with ⟨hc, e⟩ | ⟨hc, e⟩
      · exact .inl ⟨hc, e⟩
      · exact .inr (.inr (.inl ⟨hc, hr, ho, e⟩))
    · rw [State.fsmTick_dispatch_access h hr ho]
      rcases s.clearValid.whenDone_cases _ with ⟨hc, e⟩ | ⟨hc, e⟩
      · exact .inl ⟨hc, e⟩
      · exact .inr (.inr (.inr ⟨hc, hr, ho, e⟩))

/-! ## CLOW, CHIGH and FINE as one polling state (R154 to R156) -/

/-- The states that poll phi0. -/
def FsmState.polling : FsmState → Bool
  | .clow | .chigh | .fine => true
  | .idle | .dispatch | .gen | .setup | .wait | .high | .samp | .fin => false

/-- The condition a polling state waits for: CHIGH for HIGH, CLOW and FINE for LOW. -/
def FsmState.hit (phi0 : Bool) : FsmState → Bool
  | .chigh => phi0
  | _ => !phi0

/-- The state a hit leads to. -/
def FsmState.afterLock : FsmState → FsmState
  | .clow => .chigh
  | .chigh => .fine
  | _ => .wait

/-- The ticks from a hit to the next state's first action, for the strategy `k`. -/
def FsmState.lockWait (c : Config) (k : Strat) : FsmState → Nat
  | .clow => c.cPoll
  | .chigh => c.tFirst
  | _ => waitOf c k

/-- The ticks from a miss to the next poll. -/
def FsmState.missWait (c : Config) : FsmState → Nat
  | .fine => c.tRuler
  | _ => c.cPoll

theorem FsmState.polling_cases {st : FsmState} (h : st.polling = true) : st = .clow ∨ st = .chigh ∨ st = .fine := by
  cases st <;> simp [FsmState.polling] at h ⊢

/-- A state that polls when its counter is done counts, locks, aborts or tries again (R153). -/
theorem State.whenDone_poll_cases (s : State) (hit : State → Bool) (f g : State → State) :
    (0 < s.cnt ∧ s.whenDone (fun s => s.poll (hit s) f g) = s.count) ∨
    (s.cnt = 0 ∧ hit s = true ∧ s.whenDone (fun s => s.poll (hit s) f g) = f s.countPoll) ∨
    (s.cnt = 0 ∧ hit s = false ∧ s.conf.pollUnbounded = false ∧ s.conf.pollBudget ≤ s.polls + 1 ∧
      s.whenDone (fun s => s.poll (hit s) f g) = s.countPoll.raiseNoClockDetected) ∨
    (s.cnt = 0 ∧ hit s = false ∧ (s.conf.pollUnbounded = true ∨ s.polls + 1 < s.conf.pollBudget) ∧
      s.whenDone (fun s => s.poll (hit s) f g) = g s.countPoll) := by
  rcases s.whenDone_cases (fun s => s.poll (hit s) f g) with ⟨hc, e⟩ | ⟨hc, e⟩ <;> rw [e]
  · exact .inl ⟨hc, rfl⟩
  · rcases s.poll_cases (hit s) f g with ⟨hh, e⟩ | ⟨hh, hu, hb, e⟩ | ⟨hh, hb, e⟩
    · exact .inr (.inl ⟨hc, hh, e⟩)
    · exact .inr (.inr (.inl ⟨hc, hh, hu, hb, e⟩))
    · exact .inr (.inr (.inr ⟨hc, hh, hb, e⟩))

/-- A polling state counts, locks on its condition, aborts on a miss at or past the budget, or polls again. -/
theorem State.fsmTick_polling_cases {s : State} (h : s.st.polling = true) :
    (0 < s.cnt ∧ s.fsmTick = s.clearValid.count) ∨
    (s.cnt = 0 ∧ s.st.hit s.input.phi0 = true ∧ s.fsmTick = { s.clearValid.countPoll with
      st := s.st.afterLock, cnt := s.st.lockWait s.conf s.strat - 1 }) ∨
    (s.cnt = 0 ∧ s.st.hit s.input.phi0 = false ∧ s.conf.pollUnbounded = false ∧ s.conf.pollBudget ≤ s.polls + 1 ∧
      s.fsmTick = s.clearValid.countPoll.raiseNoClockDetected) ∨
    (s.cnt = 0 ∧ s.st.hit s.input.phi0 = false ∧
      (s.conf.pollUnbounded = true ∨ s.polls + 1 < s.conf.pollBudget) ∧
      s.fsmTick = { s.clearValid.countPoll with cnt := s.st.missWait s.conf - 1 }) := by
  rcases FsmState.polling_cases h with hs | hs | hs
  · rw [State.fsmTick_clow hs, hs]
    exact s.clearValid.whenDone_poll_cases (fun s => !s.input.phi0) _ _
  · rw [State.fsmTick_chigh hs, hs]
    exact s.clearValid.whenDone_poll_cases (fun s => s.input.phi0) _ _
  · rw [State.fsmTick_fine hs, hs]
    exact s.clearValid.whenDone_poll_cases (fun s => !s.input.phi0) _ _

/-! ## Bounds of a well-formed configuration (R58) -/

/-- Every duration but T_SAMPLE is at least one tick (R58 (c)). -/
theorem State.timing_pos (s : State) :
    1 ≤ s.conf.cPoll ∧ 1 ≤ s.conf.tFirst ∧ 1 ≤ s.conf.tRuler ∧ 1 ≤ s.conf.tWait ∧ 1 ≤ s.conf.tWaitSkip ∧
      1 ≤ s.conf.tHigh ∧ 1 ≤ s.conf.tDispatch := by
  have h := s.cfg.property
  simp only [Config.wellFormed, Config.timingOk, Bool.and_eq_true, decide_eq_true_eq] at h
  obtain ⟨⟨⟨-, ⟨⟨⟨⟨⟨hp, hf⟩, hr⟩, hw⟩, hk⟩, hh⟩, hd⟩, -⟩, -⟩ := h
  exact ⟨hp, hf, hr, hw, hk, hh, hd⟩

/-- A finite poll budget is at least 1 (R58 (d)). -/
theorem State.pollBudget_pos {s : State} (hu : s.conf.pollUnbounded = false) : 1 ≤ s.conf.pollBudget := by
  have h := s.cfg.property
  simp only [Config.wellFormed, Config.budgetOk, Bool.and_eq_true, Bool.or_eq_true, decide_eq_true_eq] at h
  obtain ⟨⟨-, hb⟩, -⟩ := h
  exact hb.resolve_left (by simp [hu])

theorem one_le_waitOf (s : State) (k : Strat) : 1 ≤ waitOf s.conf k := by
  obtain ⟨-, -, -, hw, hk, -⟩ := s.timing_pos
  unfold waitOf
  split
  · exact hk
  · exact hw

/-! ## What no tick touches: the inputs, the tick index and the configuration -/

/-- The part of the state that belongs to the engine's surroundings. -/
def State.surroundings (s : State) : List Input × Nat × WfConfig := (s.inputs, s.tick, s.cfg)

theorem State.whenDone_surroundings {s : State} {act : State → State} (h : (act s).surroundings = s.surroundings) :
    (s.whenDone act).surroundings = s.surroundings := by
  rcases s.whenDone_cases act with ⟨-, e⟩ | ⟨-, e⟩ <;> rw [e]
  · rfl
  · exact h

theorem State.route_surroundings (s : State) (k : Strat) : (s.route k).surroundings = s.surroundings := by
  rcases s.route_cases k with ⟨-, e⟩ | ⟨-, -, e⟩ | ⟨-, e⟩ <;> rw [e] <;> rfl

theorem State.genTick_surroundings (w : Bool) (s : State) : (s.genTick w).surroundings = s.surroundings := by
  rcases s.genTick_cases w with ⟨-, e⟩ | ⟨-, e⟩ <;> rw [e] <;> rfl

theorem State.finTick_surroundings (w : Bool) (s : State) : (s.finTick w).surroundings = s.surroundings := by
  rcases s.finTick_cases w with ⟨-, e⟩ | ⟨-, e⟩ <;> rw [e] <;> rfl

theorem State.fsmTick_surroundings (s : State) : s.fsmTick.surroundings = s.surroundings := by
  have hpoll : s.st.polling = true → s.fsmTick.surroundings = s.surroundings := fun h => by
    rcases State.fsmTick_polling_cases h with ⟨-, e⟩ | ⟨-, -, e⟩ | ⟨-, -, -, -, e⟩ | ⟨-, -, -, e⟩ <;> rw [e] <;> rfl
  cases hs : s.st with
  | idle =>
    cases hv : s.input.cmdValid with
    | true => rw [State.fsmTick_idle_accept hs hv]; rfl
    | false => rw [State.fsmTick_idle_nothing hs hv]; rfl
  | dispatch =>
    rcases State.fsmTick_dispatch_cases hs with ⟨-, e⟩ | ⟨-, -, e⟩ | ⟨-, -, -, e⟩ | ⟨-, -, -, e⟩ <;> rw [e]
    · rfl
    · rfl
    · rfl
    · exact State.route_surroundings _ _
  | gen => rw [State.fsmTick_gen hs]; exact State.genTick_surroundings _ _
  | setup => rw [State.fsmTick_setup hs]; rfl
  | clow | chigh | fine => exact hpoll (by rw [hs]; rfl)
  | wait => rw [State.fsmTick_wait hs]; exact State.whenDone_surroundings rfl
  | high => rw [State.fsmTick_high hs]; exact State.whenDone_surroundings rfl
  | samp => rw [State.fsmTick_samp hs]; exact State.whenDone_surroundings rfl
  | fin => rw [State.fsmTick_fin hs]; exact State.finTick_surroundings _ _

/-- Every step, reset included, moves the stream on by one and keeps the configuration. -/
theorem step_surroundings {s t : State} (h : step s = .next t) : t.surroundings = s.advance.surroundings := by
  rw [eq_fsmStep_of_step h, State.fsmStep]
  split
  · have hf := s.fsmTick_surroundings
    simp only [State.surroundings, Prod.mk.injEq] at hf ⊢
    obtain ⟨hi, ht, hc⟩ := hf
    simp [State.advance, hi, ht, hc]
  · rfl

theorem step_cfg {s t : State} (h : step s = .next t) : t.cfg = s.cfg :=
  congrArg (fun x => x.2.2) (step_surroundings h)

theorem step_inputAt {s t : State} (h : step s = .next t) (k : Nat) : t.inputAt k = s.inputAt (k + 1) := by
  have hs := step_surroundings h
  rw [← State.advance_inputAt]
  exact State.inputAt_eq_of_eq (congrArg (fun x => x.1) hs) (congrArg (fun x => x.2.1) hs) k

theorem runs_cfg {n : Nat} {s t : State} (h : Runs n s t) : t.cfg = s.cfg := by
  induction n generalizing s with
  | zero => rw [runs_zero.mp h]
  | succ n ih =>
    obtain ⟨u, hu, hr⟩ := runs_succ.mp h
    rw [ih hr, step_cfg hu]

/-- The sample seen `k` ticks after a run of `n` is the one `n + k` ticks ahead of its start. -/
theorem runs_inputAt {n : Nat} {s t : State} (h : Runs n s t) (k : Nat) : t.inputAt k = s.inputAt (n + k) := by
  induction n generalizing s with
  | zero => rw [runs_zero.mp h, Nat.zero_add]
  | succ n ih =>
    obtain ⟨u, hu, hr⟩ := runs_succ.mp h
    rw [ih hr, step_inputAt hu]
    congr 1
    omega

/-! ## Quiet runs -/

/-- A run of one more tick ends with a step. -/
theorem runs_snoc {n : Nat} {s t : State} : Runs (n + 1) s t ↔ ∃ u, Runs n s u ∧ step u = .next t := by
  simp only [runs_add, runs_one]

/-- A quiet tick is the FSM's. -/
theorem step_quiet {s : State} (h : s.quiet 1) : step s = .next s.fsmTick.advance :=
  step_eq_fsmTick (h 0 Nat.zero_lt_one).1 (dutyBroken_of_silent (h 0 Nat.zero_lt_one).2)

/-- What is left of a quiet stretch after a run into it. -/
theorem quiet_drop {m n : Nat} {s t : State} (h : s.quiet (n + m)) (hr : Runs n s t) : t.quiet m := fun k hk => by
  rw [runs_inputAt hr]
  exact h (n + k) (by omega)

end Sys2Proof.Machine
end

section
/-!
PROOFS. Every step keeps the invariant (O14): one lemma per kind of move, then a case per FSM state. From the invariant,
the widths of the counters (O15).
-/

namespace Sys2Proof.Machine

/-! ## The bounds of the counters -/

theorem FsmState.onBus_of_polling {st : FsmState} (h : st.polling = true) : st.onBus = true := by
  cases st <;> simp [FsmState.polling] at h <;> rfl

theorem FsmState.onBus_afterLock (st : FsmState) : st.afterLock.onBus = true := by cases st <;> rfl

theorem FsmState.afterLock_ne_high (st : FsmState) : st.afterLock ≠ .high := by cases st <;> simp [FsmState.afterLock]

theorem FsmState.ne_high_of_polling {st : FsmState} (h : st.polling = true) : st ≠ .high := by
  rintro rfl; simp [FsmState.polling] at h

theorem FsmState.inCycle_of_onBus {st : FsmState} (h : st.onBus = true) : st.inCycle = true := by
  cases st <;> simp [FsmState.onBus] at h <;> rfl

theorem FsmState.pollBound_le (c : Config) (st : FsmState) : st.pollBound c ≤ c.pollBudget + 2 := by
  cases st <;> simp only [FsmState.pollBound] <;> omega

/-- A poll short of the budget is within every state's bound. -/
theorem FsmState.pred_budget_le_pollBound (c : Config) (st : FsmState) : c.pollBudget - 1 ≤ st.pollBound c := by
  cases st <;> simp only [FsmState.pollBound] <;> omega

/-- A hit may be the one poll more that the next state allows (log 6). -/
theorem FsmState.pollBound_afterLock {c : Config} (hb : 1 ≤ c.pollBudget) {st : FsmState} (h : st.polling = true) :
    st.pollBound c + 1 ≤ st.afterLock.pollBound c := by
  rcases FsmState.polling_cases h with rfl | rfl | rfl <;> simp only [FsmState.pollBound, FsmState.afterLock] <;> omega

/-- What a hit loads is within the next state's bound. -/
theorem FsmState.lockWait_le_cntBound (c : Config) (k : Strat) {st : FsmState} (h : st.polling = true) :
    st.lockWait c k - 1 ≤ st.afterLock.cntBound c k := by
  rcases FsmState.polling_cases h with rfl | rfl | rfl <;>
    simp only [FsmState.lockWait, FsmState.afterLock, FsmState.cntBound] <;> omega

/-- What a miss loads is within the state's bound. -/
theorem FsmState.missWait_le_cntBound (c : Config) (k : Strat) {st : FsmState} (h : st.polling = true) :
    st.missWait c - 1 ≤ st.cntBound c k := by
  rcases FsmState.polling_cases h with rfl | rfl | rfl <;>
    simp only [FsmState.missWait, FsmState.cntBound] <;> omega

/-! ## The moves that keep the invariant -/

/-- The registers of the quiescent engine (R62) but for the response: what IDLE asks of a state. -/
structure Resting (s : State) : Prop where
  phi2Low : s.phi2R = false
  rwRead : s.rwR = true
  cntZero : s.cnt = 0
  finStatusOk : s.finStatus ≠ .notImplemented
  pollsFit : s.polls < 2 ^ pollW s.conf
  pollsOk : s.conf.pollUnbounded = false → s.polls ≤ s.conf.pollBudget + 2
  genFirstLow : s.genFirst = false

theorem Inv.polls_le {s : State} (h : Inv s) (hu : s.conf.pollUnbounded = false) :
    s.polls ≤ s.conf.pollBudget + 2 :=
  (h.pollsOk hu).trans (FsmState.pollBound_le _ _)

theorem Inv.genFirst_eq_false {s : State} (h : Inv s) (hs : s.st ≠ .gen) : s.genFirst = false :=
  Bool.eq_false_iff.mpr fun hg => hs (h.genFirstGen hg)

theorem Inv.phi2R_eq_false {s : State} (h : Inv s) (hs : s.st ≠ .high) : s.phi2R = false :=
  Bool.eq_false_iff.mpr fun hp => hs (h.phi2High.mp hp)

theorem Inv.rwR_eq_true {s : State} (h : Inv s) (hs : s.st.onBus = false) : s.rwR = true := by
  simp [h.rwBus, hs]

/-- DISPATCH, done counting, is at rest. -/
theorem Inv.resting_of_dispatch {s : State} (h : Inv s) (hs : s.st = .dispatch) (hc : s.cnt = 0) : Resting s where
  phi2Low := h.phi2R_eq_false (by simp [hs])
  rwRead := h.rwR_eq_true (by rw [hs]; rfl)
  cntZero := hc
  finStatusOk := h.finStatusOk.1
  pollsFit := h.pollsFit
  pollsOk := h.polls_le
  genFirstLow := h.genFirst_eq_false (by simp [hs])

/-- GEN with the first-tick mark taken back is at rest. -/
theorem Inv.resting_of_gen {s : State} (h : Inv s) (hs : s.st = .gen) : Resting { s with genFirst := false } where
  phi2Low := h.phi2R_eq_false (by simp [hs])
  rwRead := h.rwR_eq_true (by rw [hs]; rfl)
  cntZero := by have hc := h.cntOk; rw [hs] at hc; exact Nat.le_zero.mp hc
  finStatusOk := h.finStatusOk.1
  pollsFit := h.pollsFit
  pollsOk := h.polls_le
  genFirstLow := rfl

/-- FIN with RW back to read is at rest (R162). -/
theorem Inv.resting_of_fin {s : State} (h : Inv s) (hs : s.st = .fin) : Resting { s with rwR := true } where
  phi2Low := h.phi2R_eq_false (by simp [hs])
  rwRead := rfl
  cntZero := by have hc := h.cntOk; rw [hs] at hc; exact Nat.le_zero.mp hc
  finStatusOk := h.finStatusOk.1
  pollsFit := h.pollsFit
  pollsOk := h.polls_le
  genFirstLow := h.genFirst_eq_false (by simp [hs])

/-- The end of a generic cycle moves only address, direction and data (R136). -/
theorem Resting.genBus {s : State} (h : Resting s) (w : Bool) : Resting (s.genBus w) :=
  { h with rwRead := rfl }

/-- A response from a state at rest: data only with Success (R106), strategies only from LK (R217). -/
theorem Resting.inv_finish {s : State} (h : Resting s) {v : Status} {rd : Option Byte} {rs ws : Strat}
    (hrd : rd.isSome = true → v = .success)
    (hlk : (rs ≠ .default ∨ ws ≠ .default) → v = .success ∧ rd = none) : Inv (s.finish v rd rs ws) where
  validIdle := fun _ => rfl
  rdvSuccess := hrd
  rdataZero := by cases rd <;> simp
  stratsOnlyLk := fun hk => by
    obtain ⟨hv, hd⟩ := hlk hk
    exact ⟨hv, by simp [hd]⟩
  phi2High := by simp [h.phi2Low]
  rwBus := h.rwRead
  busHeld := nofun
  routed := nofun
  genDefault := nofun
  syncOnly := nofun
  finStatusOk := ⟨h.finStatusOk, nofun⟩
  cntOk := h.cntZero.le
  pollsFit := h.pollsFit
  pollsOk := h.pollsOk
  genFirstGen := fun hg => absurd (h.genFirstLow.symm.trans hg) (by decide)

theorem Resting.inv_raiseNotImplemented {s : State} (h : Resting s) : Inv s.raiseNotImplemented :=
  h.inv_finish nofun (by simp)

/-- RSP_VALID may always fall (R215). -/
theorem Inv.clearValid {s : State} (h : Inv s) : Inv s.clearValid :=
  { h with validIdle := nofun }

/-- The invariant does not read the stream. -/
theorem Inv.advance {s : State} (h : Inv s) : Inv s.advance :=
  { h with }

theorem Inv.count {s : State} (h : Inv s) : Inv s.count :=
  { h with cntOk := (Nat.sub_le _ _).trans h.cntOk }

/-- An accepted command (R200). -/
theorem Inv.latch {s : State} (h : Inv s) (hs : s.st = .idle) (hv : s.rspValid = false) (o : BitVec 2) (r : Bool)
    (a : Addr) (d : Byte) : Inv (s.latch o r a d) :=
  { h with
    validIdle := fun hv' => absurd (hv.symm.trans hv') (by decide)
    phi2High := by simp [State.latch, h.phi2R_eq_false (by simp [hs] : s.st ≠ .high)]
    rwBus := h.rwR_eq_true (by rw [hs]; rfl)
    busHeld := nofun
    routed := nofun
    genDefault := nofun
    syncOnly := nofun
    finStatusOk := ⟨h.finStatusOk.1, nofun⟩
    cntOk := le_refl (s.conf.tDispatch - 1)
    pollsOk := h.polls_le
    genFirstGen := fun hg => absurd ((h.genFirst_eq_false (by simp [hs])).symm.trans hg) (by decide) }

/-- An access routed to GEN by DEFAULT, or to SETUP by a synchronized strategy (R202, R204 to R206). -/
theorem Inv.routed_to {s : State} (h : Inv s) (hs : s.st = .dispatch) (hv : s.rspValid = false) (hc : s.cnt = 0)
    (hr : s.rsvdNz = false) (ho : s.op = 0b00#2 ∨ s.op = 0b01#2) {k : Strat} (hsel : s.selected s.isWrite = k)
    {st : FsmState} {g : Bool} (hg : g = true → st = .gen)
    (hst : st = .gen ∧ k = .default ∨
      st = .setup ∧ (k = .syncPhi0 ∨ k = .syncPhi0Skip) ∧ s.conf.syncSupported = true) :
    Inv { s with strat := k, st := st, genFirst := g } :=
  have hoff : st.onBus = false ∧ st ≠ .high ∧ st.inhibits = false ∧ st.cntBound s.conf k = 0 ∧
      st.pollBound s.conf = s.conf.pollBudget + 2 := by
    rcases hst with ⟨rfl, -⟩ | ⟨rfl, -⟩ <;> exact ⟨rfl, nofun, rfl, rfl, rfl⟩
  have ⟨hbus, hhigh, hinh, hcnt, hpoll⟩ := hoff
  { h with
    validIdle := fun hv' => absurd (hv.symm.trans hv') (by decide)
    phi2High := by simp [h.phi2R_eq_false (by simp [hs] : s.st ≠ .high), hhigh]
    rwBus := by simp [h.rwR_eq_true (by rw [hs]; rfl : s.st.onBus = false), hbus]
    busHeld := fun hb => absurd (hbus.symm.trans hb) (by decide)
    routed := fun _ => ⟨hr, ho, hsel.symm⟩
    genDefault := fun e => (hst.resolve_right fun hk => absurd (e.symm.trans hk.1) (by decide)).2
    syncOnly := fun _ hn => (hst.resolve_left fun hk => hn hk.1).2
    finStatusOk := ⟨h.finStatusOk.1, fun hi => absurd (hinh.symm.trans hi) (by decide)⟩
    cntOk := hc.le.trans (Nat.zero_le _)
    pollsOk := fun hu => (h.polls_le hu).trans hpoll.ge
    genFirstGen := hg }

/-- SETUP puts the cycle on the bus (R151, R152). -/
theorem Inv.setupTick {s : State} (h : Inv s) (hs : s.st = .setup) : Inv (s.setupTick s.isWrite) :=
  { h with
    validIdle := fun hv => absurd (h.validIdle hv) (by simp [hs])
    phi2High := by simp [State.setupTick, h.phi2R_eq_false (by simp [hs] : s.st ≠ .high)]
    rwBus := rfl
    busHeld := fun _ => ⟨rfl, rfl, fun hw => if_pos hw⟩
    routed := fun _ => h.routed (by rw [hs]; rfl)
    genDefault := nofun
    syncOnly := fun _ _ => h.syncOnly (by rw [hs]; rfl) (by simp [hs])
    finStatusOk := ⟨nofun, fun _ => rfl⟩
    cntOk := Nat.zero_le _
    pollsFit := Nat.two_pow_pos _
    pollsOk := fun _ => Nat.zero_le _
    genFirstGen := fun hg => absurd ((h.genFirst_eq_false (by simp [hs])).symm.trans hg) (by decide) }

/-- A move between two states of a synchronized cycle's bus phase, which leaves command, bus and response alone. -/
theorem Inv.moveOnBus {s : State} (h : Inv s) (hs : s.st.onBus = true) {st : FsmState} {cnt polls : Nat} {v : Status}
    {phi2 : Bool} {d : Byte} (hst : st.onBus = true) (hphi : phi2 = true ↔ st = .high)
    (hv : v ≠ .notImplemented ∧ (st.inhibits = true → v = .success)) (hcnt : cnt ≤ st.cntBound s.conf s.strat)
    (hfit : polls < 2 ^ pollW s.conf) (hpolls : s.conf.pollUnbounded = false → polls ≤ st.pollBound s.conf) :
    Inv { s with st := st, cnt := cnt, polls := polls, finStatus := v, phi2R := phi2, scratch := d } :=
  have hgen : s.st ≠ .gen := by rintro e; simp [e, FsmState.onBus] at hs
  { h with
    validIdle := fun hr => by simp [h.validIdle hr, FsmState.onBus] at hs
    phi2High := hphi
    rwBus := by have hb := h.rwBus; rw [hs] at hb; exact hb.trans (by rw [hst]; rfl)
    busHeld := fun _ => h.busHeld hs
    routed := fun _ => h.routed (FsmState.inCycle_of_onBus hs)
    genDefault := by rintro rfl; cases hst
    syncOnly := fun _ _ => h.syncOnly (FsmState.inCycle_of_onBus hs) hgen
    finStatusOk := hv
    cntOk := hcnt
    pollsFit := hfit
    pollsOk := hpolls
    genFirstGen := fun hg => absurd (h.genFirstGen hg) hgen }

/-! ## The states -/

/-- The reset values meet the invariant (R250). -/
theorem inv_resetTick (s : State) : Inv s.resetTick where
  validIdle := nofun
  rdvSuccess := nofun
  rdataZero := fun _ => rfl
  stratsOnlyLk := by simp
  phi2High := by simp
  rwBus := rfl
  busHeld := nofun
  routed := nofun
  genDefault := nofun
  syncOnly := nofun
  finStatusOk := ⟨nofun, nofun⟩
  cntOk := le_refl 0
  pollsFit := Nat.two_pow_pos _
  pollsOk := fun _ => Nat.zero_le _
  genFirstGen := nofun

theorem Inv.fsmTick_idle {s : State} (h : Inv s) (hs : s.st = .idle) : Inv s.fsmTick := by
  cases hv : s.input.cmdValid with
  | true => rw [State.fsmTick_idle_accept hs hv]; exact h.clearValid.latch hs rfl _ _ _ _
  | false => rw [State.fsmTick_idle_nothing hs hv]; exact h.clearValid

theorem Inv.fsmTick_dispatch {s : State} (h : Inv s) (hs : s.st = .dispatch) : Inv s.fsmTick := by
  have hi : Inv s.clearValid := h.clearValid
  rcases State.fsmTick_dispatch_cases hs with ⟨-, e⟩ | ⟨hc, -, e⟩ | ⟨hc, -, -, e⟩ | ⟨hc, hr, ho, e⟩ <;> rw [e]
  · exact hi.count
  · exact (hi.resting_of_dispatch hs hc).inv_raiseNotImplemented
  · exact (hi.resting_of_dispatch hs hc).inv_finish nofun fun _ => ⟨rfl, rfl⟩
  · have hrest : ∀ k, Resting { s.clearValid with strat := k } := fun _ =>
      { hi.resting_of_dispatch hs hc with }
    rcases s.clearValid.route_cases (s.selected s.isWrite) with ⟨hk, e⟩ | ⟨hk, hsup, e⟩ | ⟨-, e⟩ <;> rw [e]
    · rw [hk]; exact hi.routed_to hs rfl hc hr ho hk (fun _ => rfl) (.inl ⟨rfl, rfl⟩)
    · exact hi.routed_to hs rfl hc hr ho rfl
        (fun hg => absurd ((h.genFirst_eq_false (by simp [hs])).symm.trans hg) (by decide)) (.inr ⟨rfl, hk, hsup⟩)
    · exact (hrest _).inv_raiseNotImplemented

theorem Inv.fsmTick_gen {s : State} (h : Inv s) (hs : s.st = .gen) : Inv s.fsmTick := by
  have hi : Inv s.clearValid := h.clearValid
  rw [State.fsmTick_gen hs]
  rcases s.clearValid.genTick_cases s.isWrite with ⟨-, e⟩ | ⟨-, e⟩ <;> rw [e]
  · exact { hi with genFirstGen := nofun }
  · exact ((hi.resting_of_gen hs).genBus _).inv_finish (fun _ => rfl) (by simp)

theorem Inv.fsmTick_polling {s : State} (h : Inv s) (hs : s.st.polling = true) : Inv s.fsmTick := by
  have hi : Inv s.clearValid := h.clearValid
  have hb : s.st.onBus = true := FsmState.onBus_of_polling hs
  have hphi : ∀ {st : FsmState}, st ≠ .high → (s.phi2R = true ↔ st = .high) := fun hst => by
    simp [h.phi2R_eq_false (FsmState.ne_high_of_polling hs), hst]
  have hfin : s.finStatus = .success := h.finStatusOk.2 (by
    rcases FsmState.polling_cases hs with e | e | e <;> rw [e] <;> rfl)
  have hok : s.conf.pollUnbounded = false → s.clearValid.countPoll.polls ≤ s.st.pollBound s.conf + 1 := fun hu =>
    (State.countPoll_polls_le (s := s.clearValid) hu).trans (Nat.succ_le_succ (h.pollsOk hu))
  have hle : s.conf.pollUnbounded = false → s.st.pollBound s.conf + 1 ≤ s.st.afterLock.pollBound s.conf :=
    fun hu => FsmState.pollBound_afterLock (State.pollBudget_pos hu) hs
  rcases State.fsmTick_polling_cases hs with ⟨-, e⟩ | ⟨-, -, e⟩ | ⟨hc, -, -, -, e⟩ | ⟨-, -, hlt, e⟩ <;> rw [e]
  · exact hi.count
  · exact hi.moveOnBus hb (FsmState.onBus_afterLock _) (hphi (FsmState.afterLock_ne_high _))
      ⟨by simp [hfin], fun _ => hfin⟩ (FsmState.lockWait_le_cntBound _ _ hs) (State.countPoll_polls_lt _)
      fun hu => (hok hu).trans (hle hu)
  · exact hi.moveOnBus hb rfl (hphi nofun) ⟨nofun, nofun⟩ hc.le (State.countPoll_polls_lt _)
      fun hu => (hok hu).trans ((hle hu).trans (FsmState.pollBound_le _ _))
  · exact hi.moveOnBus hb hb (hphi (FsmState.ne_high_of_polling hs)) ⟨by simp [hfin], fun _ => hfin⟩
      (FsmState.missWait_le_cntBound _ _ hs) (State.countPoll_polls_lt _) fun hu => by
        have hlt := hlt.resolve_left (Bool.eq_false_iff.mp hu)
        have hpred := s.st.pred_budget_le_pollBound s.conf
        have hpolls : s.clearValid.countPoll.polls ≤ s.polls + 1 := State.countPoll_polls_le (s := s.clearValid) hu
        show s.clearValid.countPoll.polls ≤ s.st.pollBound s.conf
        omega

/-- WAIT, HIGH, SAMP and FIN: PHI2 rises into HIGH and falls into SAMP (R158 to R162). -/
theorem Inv.fsmTick_afterPolling {s : State} (h : Inv s)
    (hs : s.st = .wait ∨ s.st = .high ∨ s.st = .samp ∨ s.st = .fin) : Inv s.fsmTick := by
  have hi : Inv s.clearValid := h.clearValid
  have hfin : s.st.inhibits = true → s.finStatus ≠ .notImplemented ∧ s.finStatus = .success := fun hin =>
    ⟨h.finStatusOk.1, h.finStatusOk.2 hin⟩
  rcases hs with hs | hs | hs | hs
  · obtain ⟨hne, hsucc⟩ := hfin (by rw [hs]; rfl)
    rw [State.fsmTick_wait hs]
    rcases s.clearValid.waitTick_cases with ⟨-, e⟩ | ⟨-, e⟩ <;> rw [e]
    · exact hi.count
    · exact hi.moveOnBus (st := .high) (by rw [State.clearValid_st, hs]; rfl) rfl (by simp) ⟨hne, fun _ => hsucc⟩
        (le_refl _) h.pollsFit h.polls_le
  · obtain ⟨hne, hsucc⟩ := hfin (by rw [hs]; rfl)
    rw [State.fsmTick_high hs]
    rcases s.clearValid.highTick_cases with ⟨-, e⟩ | ⟨-, e⟩ <;> rw [e]
    · exact hi.count
    · exact hi.moveOnBus (st := .samp) (by rw [State.clearValid_st, hs]; rfl) rfl (by simp) ⟨hne, fun _ => hsucc⟩
        (le_refl _) h.pollsFit h.polls_le
  · obtain ⟨hne, -⟩ := hfin (by rw [hs]; rfl)
    rw [State.fsmTick_samp hs]
    rcases s.clearValid.sampTick_cases s.isWrite with ⟨-, e⟩ | ⟨hc, e⟩ <;> rw [e]
    · exact hi.count
    · exact hi.moveOnBus (st := .fin) (by rw [State.clearValid_st, hs]; rfl) rfl
        (by simp [h.phi2R_eq_false (by simp [hs] : s.st ≠ .high)]) ⟨hne, nofun⟩ hc.le h.pollsFit h.polls_le
  · rw [State.fsmTick_fin hs]
    rcases s.clearValid.finTick_cases s.isWrite with ⟨-, e⟩ | ⟨-, e⟩ <;> rw [e]
    · exact (hi.resting_of_fin hs).inv_finish (fun _ => rfl) (by simp)
    · exact (hi.resting_of_fin hs).inv_finish nofun (by simp)

/-- The tick of every FSM state keeps the invariant. -/
theorem Inv.fsmTick {s : State} (h : Inv s) : Inv s.fsmTick := by
  cases hs : s.st with
  | idle => exact h.fsmTick_idle hs
  | dispatch => exact h.fsmTick_dispatch hs
  | gen => exact h.fsmTick_gen hs
  | setup => rw [State.fsmTick_setup hs]; exact h.clearValid.setupTick hs
  | clow | chigh | fine => exact h.fsmTick_polling (by rw [hs]; rfl)
  | wait | high | samp | fin => exact h.fsmTick_afterPolling (by simp [hs])

/-- Settles O14: a step that answers is reset's or the FSM state's, and each keeps the invariant. -/
theorem stepKeepsInv : Obligations.StepKeepsInv := by
  unfold Obligations.StepKeepsInv
  intro s t h hstep
  rw [eq_fsmStep_of_step hstep, State.fsmStep]
  split
  · exact h.fsmTick.advance
  · exact (inv_resetTick s).advance

/-! ## The widths of the counters (R24) -/

/-- Every duration that `cnt` counts is at most one more than the maximum that R24 derives CNT_W from. -/
theorem durations_le_cntMax (c : Config) :
    c.tDispatch ≤ cntMax c + 1 ∧ c.cPoll ≤ cntMax c + 1 ∧ c.tFirst ≤ cntMax c + 1 ∧ c.tRuler ≤ cntMax c + 1 ∧
      c.tWait ≤ cntMax c + 1 ∧ c.tWaitSkip ≤ cntMax c + 1 ∧ c.tHigh ≤ cntMax c + 1 ∧
      c.tSample + 1 ≤ cntMax c + 1 := by
  have h : max c.tDispatch (max c.cPoll (max c.tFirst (max c.tRuler
      (max c.tWait (max c.tWaitSkip (max c.tHigh (c.tSample + 1))))))) ≤ cntMax c + 1 := le_tsub_add
  simpa only [max_le_iff] using h

/-- Every state's bound on `cnt` is within that maximum. -/
theorem FsmState.cntBound_le_cntMax (c : Config) (k : Strat) (st : FsmState) : st.cntBound c k ≤ cntMax c := by
  obtain ⟨hd, hp, hf, hr, hw, hk, hh, hs⟩ := durations_le_cntMax c
  have hwait : waitOf c k ≤ cntMax c + 1 := by unfold waitOf; split <;> assumption
  cases st <;> simp only [FsmState.cntBound] <;> omega

/-- POLL_W is the least width, of at least one bit, that holds a finite budget. -/
theorem pollW_le {c : Config} (hu : c.pollUnbounded = false) {w : Nat} (hb : c.pollBudget < 2 ^ w) (hw : 0 < w) :
    pollW c ≤ w := by
  simp only [pollW, bitsFor, hu, Bool.false_eq_true, if_false]
  by_cases h0 : c.pollBudget = 0
  · rw [h0, Nat.log2_zero]
    exact hw
  · exact (Nat.log2_lt h0).mpr hb

theorem pollBudget_lt_two_pow {c : Config} (hu : c.pollUnbounded = false) : c.pollBudget < 2 ^ pollW c := by
  simpa [pollW, hu] using lt_two_pow_bitsFor c.pollBudget

/-- Settles O15: each clause is the invariant's bound for the state, within the configuration's. -/
theorem countersFitTheirWidths : Obligations.CountersFitTheirWidths := by
  unfold Obligations.CountersFitTheirWidths
  intro s h
  have hcnt : s.cnt ≤ cntMax s.conf := h.cntOk.trans (FsmState.cntBound_le_cntMax _ _ _)
  refine ⟨hcnt.trans_lt (lt_two_pow_bitsFor _), h.pollsFit, fun hu => ⟨?_, h.polls_le hu,
    pollBudget_lt_two_pow hu, fun w => pollW_le hu⟩⟩
  have hpolls := h.pollsOk hu
  rintro (hs | hs) <;> simp only [hs, FsmState.pollBound] at hpolls <;> omega

end Sys2Proof.Machine
end

section
/-!
PROOFS. Phase acquisition with a finite budget (O52): from the first CLOW tick on, the engine polls until it comes to
WAIT or aborts. `Acquiring` holds at every tick before that, with the number `d` of polls made; each tick keeps it, counting
down to the next poll, or ends it.
-/

namespace Sys2Proof.Machine

/-- `M = max(C_POLL, T_FIRST, T_RULER)` (R268): the longest time between two polls. -/
def pollSpacing (c : Config) : Nat := max c.cPoll (max c.tFirst c.tRuler)

/-- The largest value of a POLL_W-bit register (R24). -/
def pollsMax (c : Config) : Nat := 2 ^ pollW c - 1

theorem pollBudget_le_pollsMax {c : Config} (hu : c.pollUnbounded = false) : c.pollBudget ≤ pollsMax c :=
  Nat.le_sub_one_of_lt (pollBudget_lt_two_pow hu)

/-- With a finite budget the poll counter counts up to its largest value and stays there (log 6). -/
theorem State.countPoll_polls_of_finite {s : State} (hu : s.conf.pollUnbounded = false) :
    s.countPoll.polls = min (s.polls + 1) (pollsMax s.conf) := by
  simp only [State.countPoll, hu, Bool.false_eq_true, if_false, pollsMax]

theorem FsmState.pollBound_le_of_polling (c : Config) {st : FsmState} (h : st.polling = true) :
    st.pollBound c ≤ c.pollBudget + 1 := by
  rcases FsmState.polling_cases h with rfl | rfl | rfl <;> simp only [FsmState.pollBound] <;> omega

/-- The next poll comes within the spacing, after a hit in CLOW or CHIGH ... -/
theorem FsmState.lockWait_le_pollSpacing (c : Config) (k : Strat) {st : FsmState} (h : st = .clow ∨ st = .chigh) :
    st.lockWait c k ≤ pollSpacing c := by
  rcases h with rfl | rfl <;> simp [FsmState.lockWait, pollSpacing]

/-- ... and after a miss. -/
theorem FsmState.missWait_le_pollSpacing (c : Config) (st : FsmState) : st.missWait c ≤ pollSpacing c := by
  cases st <;> simp [FsmState.missWait, pollSpacing]

/-- A hit loads at least one tick. -/
theorem FsmState.one_le_lockWait (s : State) (k : Strat) (st : FsmState) : 1 ≤ st.lockWait s.conf k := by
  obtain ⟨hp, hf, -⟩ := s.timing_pos
  cases st with
  | clow => exact hp
  | chigh => exact hf
  | _ => exact one_le_waitOf s k

/-- A miss loads at least one tick. -/
theorem FsmState.one_le_missWait (s : State) (st : FsmState) : 1 ≤ st.missWait s.conf := by
  obtain ⟨hp, -, hr, -⟩ := s.timing_pos
  cases st with
  | fine => exact hr
  | _ => exact hp

/-- The exception of log 6, once met, stays met. -/
theorem coarseHitOnLastPoll_mono {s : State} {m n : Nat} (h : s.coarseHitOnLastPoll m) (hmn : m ≤ n) :
    s.coarseHitOnLastPoll n := by
  obtain ⟨k, u, v, hk, hrest⟩ := h
  exact ⟨k, u, v, hk.trans_le hmn, hrest⟩

/-- `u` is the state `k` ticks after `s`, a first CLOW tick, and the cycle is still acquiring its phase: it has made `d`
polls, and the next one is due by tick `d * M`. -/
structure Acquiring (s : State) (k d : Nat) (u : State) : Prop where
  run : Runs k s u
  polling : u.st.polling = true
  phi2Low : u.phi2R = false
  finStatus : u.finStatus = s.finStatus
  strat : u.strat = s.strat
  polls : u.polls = min d (pollsMax s.conf)
  pollBound : d ≤ u.st.pollBound s.conf
  due : k + u.cnt ≤ d * pollSpacing s.conf
  coarse : s.conf.pollBudget ≤ d → s.coarseHitOnLastPoll k

/-- `t` is the state `n` ticks after `s`, and poll number `d`, one tick before, ended the acquisition: in WAIT with the
strategy's wait loaded, or in FIN with NoClockDetected. -/
structure Acquired (s : State) (n d : Nat) (t : State) : Prop where
  run : Runs n s t
  ended : (t.st = .wait ∧ t.cnt = waitOf s.conf s.strat - 1 ∧ t.finStatus = s.finStatus) ∨
    (t.st = .fin ∧ t.finStatus = .noClockDetected)
  phi2Low : t.phi2R = false
  polls : t.polls = min d (pollsMax s.conf)
  pollBound : d ≤ s.conf.pollBudget + 2
  due : n ≤ (d - 1) * pollSpacing s.conf + 1
  coarse : s.conf.pollBudget < d → s.coarseHitOnLastPoll n

section
variable {s u : State} {k d : Nat}

theorem Acquiring.conf_eq (h : Acquiring s k d u) : u.conf = s.conf := by
  simp only [State.conf, runs_cfg h.run]

/-- The first CLOW tick. -/
theorem acquiring_start (hs : s.st = .clow) (hc : s.cnt = 0) (hp : s.polls = 0) (hphi : s.phi2R = false)
    (hu : s.conf.pollUnbounded = false) : Acquiring s 0 0 s where
  run := runs_zero.mpr rfl
  polling := by rw [hs]; rfl
  phi2Low := hphi
  finStatus := rfl
  strat := rfl
  polls := by rw [hp, Nat.zero_min]
  pollBound := Nat.zero_le _
  due := by rw [hc]; exact Nat.zero_le _
  coarse := fun hb => absurd (State.pollBudget_pos hu) (by omega)

/-- Past the budget comes at most one poll before the one that ends the acquisition. -/
theorem Acquiring.made_le (h : Acquiring s k d u) : d ≤ s.conf.pollBudget + 1 :=
  h.pollBound.trans (FsmState.pollBound_le_of_polling _ h.polling)

/-- Acquisition cannot last: its next poll is due. -/
theorem Acquiring.tick_le (h : Acquiring s k d u) : k ≤ (s.conf.pollBudget + 1) * pollSpacing s.conf :=
  (Nat.le_of_add_right_le h.due).trans (Nat.mul_le_mul_right _ h.made_le)

/-- The counter stands at the number of polls made as long as that is within the budget. -/
theorem Acquiring.polls_eq (h : Acquiring s k d u) (hu : s.conf.pollUnbounded = false) (hd : d ≤ s.conf.pollBudget) :
    u.polls = d := by
  rw [h.polls, Nat.min_eq_left (hd.trans (pollBudget_le_pollsMax hu))]

/-- A poll is counted. -/
theorem Acquiring.polls_countPoll (h : Acquiring s k d u) (hu : s.conf.pollUnbounded = false) :
    u.clearValid.countPoll.polls = min (d + 1) (pollsMax s.conf) := by
  rw [State.countPoll_polls_of_finite (s := u.clearValid) (by rw [State.clearValid_conf, h.conf_eq, hu]),
    State.clearValid_polls, State.clearValid_conf, h.conf_eq, h.polls]
  omega

/-- If poll `d + 1` hits in CLOW or CHIGH, then past the budget's last poll the cycle has met the exception of log 6. -/
theorem Acquiring.coarse_of_lock (h : Acquiring s k d u) (hu : s.conf.pollUnbounded = false) (hc : u.cnt = 0)
    {v : State} (hv : Runs (k + 1) s v) (hst : (u.st = .clow ∧ v.st = .chigh) ∨ (u.st = .chigh ∧ v.st = .fine))
    (hb : s.conf.pollBudget ≤ d + 1) : s.coarseHitOnLastPoll (k + 1) := by
  rcases Nat.lt_or_ge d s.conf.pollBudget with hd | hd
  · refine ⟨k, u, v, Nat.lt_succ_self k, h.run, hv, hc, ?_, hst⟩
    rw [h.polls_eq hu hd.le, h.conf_eq]
    omega
  · exact coarseHitOnLastPoll_mono (h.coarse hd) (Nat.le_succ k)

/-- A poll at tick `k` and a wait within the spacing put the next poll within the next spacing. -/
theorem Acquiring.due_next (h : Acquiring s k d u) {w : Nat} (hpos : 1 ≤ w) (hw : w ≤ pollSpacing s.conf) :
    k + 1 + (w - 1) ≤ (d + 1) * pollSpacing s.conf := by
  have hdue := h.due
  rw [Nat.succ_mul]
  omega

/-- The poll that ends the acquisition comes at a tick that is due. -/
theorem Acquiring.due_end (h : Acquiring s k d u) : k + 1 ≤ (d + 1 - 1) * pollSpacing s.conf + 1 :=
  Nat.succ_le_succ (Nat.le_of_add_right_le h.due)

/-- A tick that counts. -/
theorem Acquiring.of_count (h : Acquiring s k d u) (hc : 0 < u.cnt) (hrun : Runs (k + 1) s u.clearValid.count.advance) :
    Acquiring s (k + 1) d u.clearValid.count.advance :=
  { h with
    run := hrun
    due := by
      have hdue := h.due
      show k + 1 + (u.cnt - 1) ≤ _
      omega
    coarse := fun hb => coarseHitOnLastPoll_mono (h.coarse hb) (Nat.le_succ k) }

/-- A hit in CLOW or CHIGH: the acquisition goes on in the next state. -/
theorem Acquiring.of_coarse_lock (h : Acquiring s k d u) (hu : s.conf.pollUnbounded = false) (hc : u.cnt = 0)
    (hst : u.st = .clow ∨ u.st = .chigh) {v : State} (hv : v = State.advance { u.clearValid.countPoll with
      st := u.st.afterLock, cnt := u.st.lockWait u.conf u.strat - 1 }) (hrun : Runs (k + 1) s v) :
    Acquiring s (k + 1) (d + 1) v := by
  subst hv
  exact
    { h with
      run := hrun
      polling := by rcases hst with e | e <;> simp [e, FsmState.afterLock, FsmState.polling]
      polls := h.polls_countPoll hu
      pollBound := (Nat.succ_le_succ h.pollBound).trans
        (FsmState.pollBound_afterLock (State.pollBudget_pos hu) h.polling)
      due := h.due_next (FsmState.one_le_lockWait u _ _) (h.conf_eq ▸ FsmState.lockWait_le_pollSpacing _ _ hst)
      coarse := h.coarse_of_lock hu hc hrun (by rcases hst with e | e <;> simp [e, FsmState.afterLock]) }

/-- A hit in FINE: the acquisition has ended in WAIT. -/
theorem Acquiring.of_fine_lock (h : Acquiring s k d u) (hu : s.conf.pollUnbounded = false) (hst : u.st = .fine)
    {v : State} (hv : v = State.advance { u.clearValid.countPoll with
      st := u.st.afterLock, cnt := u.st.lockWait u.conf u.strat - 1 }) (hrun : Runs (k + 1) s v) :
    Acquired s (k + 1) (d + 1) v := by
  subst hv
  exact
    { run := hrun
      ended := .inl ⟨by simp [hst, FsmState.afterLock], by simp [hst, FsmState.lockWait, h.conf_eq, h.strat],
        h.finStatus⟩
      phi2Low := h.phi2Low
      polls := h.polls_countPoll hu
      pollBound := Nat.succ_le_succ h.made_le
      due := h.due_end
      coarse := fun hb => coarseHitOnLastPoll_mono (h.coarse (Nat.lt_succ_iff.mp hb)) (Nat.le_succ k) }

/-- A miss at or past the budget: the acquisition has ended in FIN. -/
theorem Acquiring.of_abort (h : Acquiring s k d u) (hu : s.conf.pollUnbounded = false)
    (hrun : Runs (k + 1) s u.clearValid.countPoll.raiseNoClockDetected.advance) :
    Acquired s (k + 1) (d + 1) u.clearValid.countPoll.raiseNoClockDetected.advance where
  run := hrun
  ended := .inr ⟨rfl, rfl⟩
  phi2Low := h.phi2Low
  polls := h.polls_countPoll hu
  pollBound := Nat.succ_le_succ h.made_le
  due := h.due_end
  coarse := fun hb => coarseHitOnLastPoll_mono (h.coarse (Nat.lt_succ_iff.mp hb)) (Nat.le_succ k)

/-- A miss short of the budget: the state polls again. -/
theorem Acquiring.of_miss (h : Acquiring s k d u) (hu : s.conf.pollUnbounded = false)
    (hlt : u.polls + 1 < s.conf.pollBudget) {v : State}
    (hv : v = State.advance { u.clearValid.countPoll with cnt := u.st.missWait u.conf - 1 })
    (hrun : Runs (k + 1) s v) : Acquiring s (k + 1) (d + 1) v := by
  subst hv
  have hd : d + 1 < s.conf.pollBudget := by
    have hmax := pollBudget_le_pollsMax hu
    have hp := h.polls
    omega
  exact
    { h with
      run := hrun
      polls := h.polls_countPoll hu
      pollBound := (Nat.le_sub_one_of_lt hd).trans (FsmState.pred_budget_le_pollBound _ _)
      due := h.due_next (FsmState.one_le_missWait u _) (h.conf_eq ▸ FsmState.missWait_le_pollSpacing _ _)
      coarse := fun hb => absurd hd hb.not_gt }

/-- One tick of the acquisition: it counts, or it makes poll `d + 1`, after which the acquisition goes on or has
ended. -/
theorem Acquiring.tick (h : Acquiring s k d u) (hu : s.conf.pollUnbounded = false) (hq : u.quiet 1) :
    ∃ v, step u = .next v ∧
      ((v.polls = u.polls ∧ Acquiring s (k + 1) d v) ∨
        (v.polls = min (d + 1) (pollsMax s.conf) ∧
          (Acquiring s (k + 1) (d + 1) v ∨ Acquired s (k + 1) (d + 1) v))) := by
  have hstep := step_quiet hq
  have hrun := runs_snoc.mpr ⟨u, h.run, hstep⟩
  have hpolls := h.polls_countPoll hu
  refine ⟨_, hstep, ?_⟩
  rcases State.fsmTick_polling_cases h.polling with ⟨hc, e⟩ | ⟨hc, -, e⟩ | ⟨-, -, -, -, e⟩ | ⟨-, -, hlt, e⟩ <;>
    rw [e] at hrun ⊢
  · exact .inl ⟨rfl, h.of_count hc hrun⟩
  · refine .inr ⟨hpolls, ?_⟩
    rcases FsmState.polling_cases h.polling with hst | hst | hst
    · exact .inl (h.of_coarse_lock hu hc (.inl hst) rfl hrun)
    · exact .inl (h.of_coarse_lock hu hc (.inr hst) rfl hrun)
    · exact .inr (h.of_fine_lock hu hst rfl hrun)
  · exact .inr ⟨hpolls, .inr (h.of_abort hu hrun)⟩
  · rw [h.conf_eq] at hlt
    exact .inr ⟨hpolls, .inl (h.of_miss hu (hlt.resolve_left (Bool.eq_false_iff.mp hu)) rfl hrun)⟩

/-- At a tick of the acquisition the stream is quiet. -/
theorem Acquiring.quiet (h : Acquiring s k d u)
    (hq : s.quiet ((s.conf.pollBudget + 1) * pollSpacing s.conf + 1)) : u.quiet 1 :=
  quiet_drop (quiet_le hq (Nat.succ_le_succ h.tick_le)) h.run

/-- Up to any tick, the cycle is still acquiring its phase or has ended the acquisition. -/
theorem acquiring_or_acquired (hstart : Acquiring s 0 0 s) (hu : s.conf.pollUnbounded = false)
    (hq : s.quiet ((s.conf.pollBudget + 1) * pollSpacing s.conf + 1)) (n : Nat) :
    (∀ j ≤ n, ∃ d u, Acquiring s j d u) ∨
      ∃ k d t, (∀ j ≤ k, ∃ d u, Acquiring s j d u) ∧ Acquired s (k + 1) d t := by
  induction n with
  | zero => exact .inl fun j hj => by rw [Nat.le_zero.mp hj]; exact ⟨0, s, hstart⟩
  | succ n ih =>
    rcases ih with hall | hended
    · obtain ⟨d, u, h⟩ := hall n le_rfl
      have hgo : (∃ d v, Acquiring s (n + 1) d v) → ∀ j ≤ n + 1, ∃ d u, Acquiring s j d u := fun hv j hj => by
        rcases Nat.le_succ_iff.mp hj with hj | rfl
        · exact hall j hj
        · exact hv
      obtain ⟨v, -, ⟨-, hv⟩ | ⟨-, hv | hv⟩⟩ := h.tick hu (h.quiet hq)
      · exact .inl (hgo ⟨_, v, hv⟩)
      · exact .inl (hgo ⟨_, v, hv⟩)
      · exact .inr ⟨n, _, v, hall, hv⟩
    · exact .inr hended

/-- With a finite budget every acquisition ends. -/
theorem acquisition_ends (hstart : Acquiring s 0 0 s) (hu : s.conf.pollUnbounded = false)
    (hq : s.quiet ((s.conf.pollBudget + 1) * pollSpacing s.conf + 1)) :
    ∃ k d t, (∀ j ≤ k, ∃ d u, Acquiring s j d u) ∧ Acquired s (k + 1) d t := by
  refine (acquiring_or_acquired hstart hu hq
    ((s.conf.pollBudget + 1) * pollSpacing s.conf + 1)).resolve_left fun hall => ?_
  obtain ⟨d, u, h⟩ := hall _ le_rfl
  exact absurd h.tick_le (Nat.not_succ_le_self _)

/-- Between two ticks of an acquisition the counter stands still, or it goes up by one at a poll that is due. -/
theorem Acquiring.polls_step (h : Acquiring s k d u) (hu : s.conf.pollUnbounded = false) (hq : u.quiet 1) {v : State}
    (hv : step u = .next v) (hne : v.polls ≠ u.polls) :
    v.polls = u.polls + 1 ∧ k ≤ u.polls * pollSpacing s.conf := by
  obtain ⟨v', hv', hcases⟩ := h.tick hu hq
  obtain rfl : v = v' := Host.Outcome.next.inj (hv.symm.trans hv')
  rcases hcases with ⟨he, -⟩ | ⟨hp, -⟩
  · exact absurd he hne
  · have hold := h.polls
    have hd : u.polls = d := by omega
    rw [hd]
    exact ⟨by omega, Nat.le_of_add_right_le h.due⟩

end

section
variable {s t : State} {n d : Nat}

/-- The polls and the time of an acquisition outside the exception of log 6 (R164, R268). -/
theorem Acquired.within_budget (h : Acquired s n d t) (hcoarse : ¬ s.coarseHitOnLastPoll n) :
    t.polls ≤ s.conf.pollBudget ∧ n ≤ (s.conf.pollBudget - 1) * pollSpacing s.conf + 1 := by
  have hd : d ≤ s.conf.pollBudget := Nat.not_lt.mp fun hb => hcoarse (h.coarse hb)
  refine ⟨?_, h.due.trans (Nat.succ_le_succ (Nat.mul_le_mul_right _ (Nat.sub_le_sub_right hd 1)))⟩
  rw [h.polls]
  exact (Nat.min_le_left _ _).trans hd

/-- The polls and the time of any acquisition (log 6). -/
theorem Acquired.within_budget_succ (h : Acquired s n d t) :
    t.polls ≤ s.conf.pollBudget + 2 ∧ n ≤ (s.conf.pollBudget + 1) * pollSpacing s.conf + 1 := by
  refine ⟨?_, h.due.trans (Nat.succ_le_succ (Nat.mul_le_mul_right _ (Nat.sub_le_sub_right h.pollBound 1)))⟩
  rw [h.polls]
  exact (Nat.min_le_left _ _).trans h.pollBound

end

/-- Settles O52: the acquisition ends with a poll that is due, and each earlier tick is one of it. -/
theorem acquisitionIsBounded : Obligations.AcquisitionIsBounded := by
  unfold Obligations.AcquisitionIsBounded
  intro s hs hc hp hphi hu m b hq
  obtain ⟨k, d, t, hall, hend⟩ := acquisition_ends (acquiring_start hs hc hp hphi hu) hu hq
  obtain ⟨hpolls, hticks⟩ := hend.within_budget_succ
  refine ⟨k + 1, t, hend.run, hend.ended.imp And.left id, hend.within_budget, hpolls, hticks, ?_, ?_⟩
  · intro j u v hj hu' hv hne
    obtain ⟨d, w, hacq⟩ := hall j (Nat.lt_succ_iff.mp hj)
    obtain rfl := runs_unique hacq.run hu'
    obtain ⟨w', hw', hstep⟩ := runs_snoc.mp hv
    obtain rfl := runs_unique hw' hu'
    exact hacq.polls_step hu (hacq.quiet hq) hstep hne
  · intro j u hj hu'
    rcases Nat.le_succ_iff.mp hj with hj | rfl
    · obtain ⟨d, w, hacq⟩ := hall j hj
      obtain rfl := runs_unique hacq.run hu'
      exact hacq.phi2Low
    · obtain rfl := runs_unique hend.run hu'
      exact hend.phi2Low

end Sys2Proof.Machine
end

section
/-!
PROOFS. The whole cycle under a finite budget (O60): after the acquisition the rest of the cycle, WAIT to FIN, takes a
number of ticks that its state fixes, whatever the inputs.
-/

namespace Sys2Proof.Machine

/-- The states after the acquisition. -/
def FsmState.finishing : FsmState → Bool
  | .wait | .high | .samp | .fin => true
  | .idle | .dispatch | .gen | .setup | .clow | .chigh | .fine => false

/-- The ticks from a state after the acquisition to the response (R158 to R162). -/
def State.ticksToIdle (s : State) : Nat :=
  match s.st with
  | .wait => s.cnt + s.conf.tHigh + s.conf.tSample + 3
  | .high => s.cnt + s.conf.tSample + 3
  | .samp => s.cnt + 2
  | .fin => 1
  | .idle | .dispatch | .gen | .setup | .clow | .chigh | .fine => 0

section
variable {s : State}

theorem ticksToIdle_wait (h : s.st = .wait) : s.ticksToIdle = s.cnt + s.conf.tHigh + s.conf.tSample + 3 := by
  simp [State.ticksToIdle, h]

theorem ticksToIdle_high (h : s.st = .high) : s.ticksToIdle = s.cnt + s.conf.tSample + 3 := by
  simp [State.ticksToIdle, h]

theorem ticksToIdle_samp (h : s.st = .samp) : s.ticksToIdle = s.cnt + 2 := by
  simp [State.ticksToIdle, h]

theorem ticksToIdle_fin (h : s.st = .fin) : s.ticksToIdle = 1 := by
  simp [State.ticksToIdle, h]

theorem ticksToIdle_pos (h : s.st.finishing = true) : 0 < s.ticksToIdle := by
  cases hs : s.st <;> simp [hs, FsmState.finishing] at h <;> simp [State.ticksToIdle, hs]

end

/-- `v` is one tick nearer to the response than `s`, with the same polls and status. -/
structure Nearer (s v : State) : Prop where
  finishing : v.st.finishing = true
  ticks : s.ticksToIdle = v.ticksToIdle + 1
  polls : v.polls = s.polls
  finStatus : v.finStatus = s.finStatus

section
variable {s : State}

/-- In WAIT, HIGH and SAMP a tick that counts is one tick nearer. -/
theorem nearer_count (hs : s.st = .wait ∨ s.st = .high ∨ s.st = .samp) (hc : 0 < s.cnt) :
    Nearer s s.clearValid.count := by
  refine ⟨by rcases hs with e | e | e <;> simp [e, FsmState.finishing], ?_, rfl, rfl⟩
  rcases hs with e | e | e
  · rw [ticksToIdle_wait e, ticksToIdle_wait (s := s.clearValid.count) e]
    show _ = s.cnt - 1 + s.conf.tHigh + s.conf.tSample + 3 + 1
    omega
  · rw [ticksToIdle_high e, ticksToIdle_high (s := s.clearValid.count) e]
    show _ = s.cnt - 1 + s.conf.tSample + 3 + 1
    omega
  · rw [ticksToIdle_samp e, ticksToIdle_samp (s := s.clearValid.count) e]
    show _ = s.cnt - 1 + 2 + 1
    omega

/-- WAIT enters HIGH with T_HIGH loaded (R158). -/
theorem nearer_wait (hs : s.st = .wait) : Nearer s s.fsmTick := by
  obtain ⟨-, -, -, -, -, hhigh, -⟩ := s.timing_pos
  rw [State.fsmTick_wait hs]
  rcases s.clearValid.waitTick_cases with ⟨hc, e⟩ | ⟨hc, e⟩ <;> rw [e]
  · exact nearer_count (.inl hs) hc
  · refine ⟨rfl, ?_, rfl, rfl⟩
    rw [State.clearValid_cnt] at hc
    rw [ticksToIdle_wait hs, ticksToIdle_high rfl, hc]
    show _ = s.conf.tHigh - 1 + s.conf.tSample + 3 + 1
    omega

/-- HIGH enters SAMP with T_SAMPLE loaded (R159). -/
theorem nearer_high (hs : s.st = .high) : Nearer s s.fsmTick := by
  rw [State.fsmTick_high hs]
  rcases s.clearValid.highTick_cases with ⟨hc, e⟩ | ⟨hc, e⟩ <;> rw [e]
  · exact nearer_count (.inr (.inl hs)) hc
  · refine ⟨rfl, ?_, rfl, rfl⟩
    rw [State.clearValid_cnt] at hc
    rw [ticksToIdle_high hs, ticksToIdle_samp rfl, hc, Nat.zero_add]
    rfl

/-- SAMP enters FIN (R160). -/
theorem nearer_samp (hs : s.st = .samp) : Nearer s s.fsmTick := by
  rw [State.fsmTick_samp hs]
  rcases s.clearValid.sampTick_cases s.isWrite with ⟨hc, e⟩ | ⟨hc, e⟩ <;> rw [e]
  · exact nearer_count (.inr (.inr hs)) hc
  · refine ⟨rfl, ?_, rfl, rfl⟩
    rw [State.clearValid_cnt] at hc
    rw [ticksToIdle_samp hs, ticksToIdle_fin rfl, hc]

/-- FIN responds with the status of the cycle (R162). -/
theorem fsmTick_fin_responds (hs : s.st = .fin) (hf : s.finStatus ≠ .notImplemented) :
    s.fsmTick.st = .idle ∧ s.fsmTick.rspValid = true ∧ s.fsmTick.rspStatus = s.finStatus ∧
      s.fsmTick.polls = s.polls := by
  rw [State.fsmTick_fin hs]
  rcases s.clearValid.finTick_cases s.isWrite with ⟨hv, e⟩ | ⟨hv, e⟩ <;> rw [e]
  · exact ⟨rfl, rfl, hv.symm, rfl⟩
  · refine ⟨rfl, rfl, ?_, rfl⟩
    rw [State.clearValid_finStatus] at hv
    cases hst : s.finStatus with
    | success => exact absurd hst hv
    | notImplemented => exact absurd hst hf
    | noClockDetected => rfl

/-- After the acquisition a tick is nearer to the response, or it is FIN's. -/
theorem nearer_or_fin (hs : s.st.finishing = true) : Nearer s s.fsmTick ∨ s.st = .fin := by
  cases h : s.st with
  | wait => exact .inl (nearer_wait h)
  | high => exact .inl (nearer_high h)
  | samp => exact .inl (nearer_samp h)
  | fin => exact .inr rfl
  | idle | dispatch | gen | setup | clow | chigh | fine => rw [h] at hs; cases hs

end

/-- From any state after the acquisition the engine responds with the cycle's status, first at the tick that the state
fixes, without another poll. -/
theorem finishing_responds (n : Nat) {s : State} (hs : s.st.finishing = true) (hn : s.ticksToIdle = n)
    (hf : s.finStatus ≠ .notImplemented) (hq : s.quiet n) :
    ∃ t, Runs n s t ∧ t.st = .idle ∧ t.rspValid = true ∧ t.rspStatus = s.finStatus ∧ t.polls = s.polls ∧
      ∀ k u, k < n → Runs k s u → u.st ≠ .idle := by
  induction n generalizing s with
  | zero => exact absurd hn (ticksToIdle_pos hs).ne'
  | succ n ih =>
    have hne : s.st ≠ .idle := by rintro e; rw [e] at hs; cases hs
    have hstep := step_quiet (quiet_le hq (Nat.succ_le_succ n.zero_le))
    rcases nearer_or_fin hs with hnear | hfin
    · obtain ⟨t, hrun, hidle, hvalid, hstatus, hpolls, hbusy⟩ := ih (s := s.fsmTick.advance) hnear.finishing
        (Nat.succ_injective (hnear.ticks.symm.trans hn)) (hnear.finStatus ▸ hf)
        (quiet_drop (Nat.add_comm n 1 ▸ hq) (runs_one.mpr hstep))
      refine ⟨t, runs_of_step hstep hrun, hidle, hvalid, hstatus.trans hnear.finStatus, hpolls.trans hnear.polls, ?_⟩
      intro k u hk hu
      cases k with
      | zero => rwa [runs_zero.mp hu]
      | succ k =>
        obtain ⟨v, hv, hu⟩ := runs_succ.mp hu
        obtain rfl := Host.Outcome.next.inj (hstep.symm.trans hv)
        exact hbusy k u (Nat.lt_of_succ_lt_succ hk) hu
    · obtain rfl : n = 0 := Nat.succ_injective (hn.symm.trans (ticksToIdle_fin hfin))
      obtain ⟨hidle, hvalid, hstatus, hpolls⟩ := fsmTick_fin_responds hfin hf
      refine ⟨_, runs_one.mpr hstep, hidle, hvalid, hstatus, hpolls, ?_⟩
      intro k u hk hu
      obtain rfl := Nat.lt_one_iff.mp hk
      rwa [runs_zero.mp hu]

section
variable {s t : State} {n d : Nat}

theorem Acquired.finishing (h : Acquired s n d t) : t.st.finishing = true := by
  rcases h.ended with ⟨hs, -⟩ | ⟨hs, -⟩ <;> rw [hs] <;> rfl

theorem Acquired.conf_eq (h : Acquired s n d t) : t.conf = s.conf := by
  simp only [State.conf, runs_cfg h.run]

/-- The rest of a cycle that was to succeed: from WAIT its wait-out, PHI2 span and sampling, and Success; from FIN one
tick, and NoClockDetected. -/
theorem Acquired.rest (h : Acquired s n d t) (hf : s.finStatus = .success) :
    (t.finStatus = .success ∧
      t.ticksToIdle + 1 = waitOf s.conf s.strat + s.conf.tHigh + s.conf.tSample + 3) ∨
    (t.finStatus = .noClockDetected ∧ t.ticksToIdle = 1) := by
  rcases h.ended with ⟨hs, hc, hv⟩ | ⟨hs, hv⟩
  · have hw := one_le_waitOf s s.strat
    refine .inl ⟨hv.trans hf, ?_⟩
    rw [ticksToIdle_wait hs, hc, h.conf_eq]
    omega
  · exact .inr ⟨hv, ticksToIdle_fin hs⟩

end

/-- No tick of an acquisition is an IDLE tick. -/
theorem Acquiring.st_ne_idle {s u : State} {k d : Nat} (h : Acquiring s k d u) : u.st ≠ .idle := by
  have hp := h.polling
  rintro e
  rw [e] at hp
  cases hp

/-- Settles O60: the acquisition's bound (O52), and then the ticks of the rest of the cycle. -/
theorem budgetBoundsTheWholeCycle : Obligations.BudgetBoundsTheWholeCycle := by
  unfold Obligations.BudgetBoundsTheWholeCycle
  intro s hs hc hp hphi hf hu m b rest hq
  obtain ⟨k, d, u, hall, hend⟩ := acquisition_ends (acquiring_start hs hc hp hphi hu) hu
    (quiet_le hq (Nat.add_le_add_left (by omega) _))
  obtain ⟨hpolls, hticks⟩ := hend.within_budget_succ
  have hrest := hend.rest hf
  have hlen : u.ticksToIdle + 1 ≤ rest := by omega
  have htotal : k + 1 + u.ticksToIdle ≤ (s.conf.pollBudget + 1) * pollSpacing s.conf + rest := by omega
  obtain ⟨t, hrun, hidle, hvalid, hstatus, hsame, hbusy⟩ := finishing_responds u.ticksToIdle hend.finishing rfl
    (by rcases hrest with ⟨e, -⟩ | ⟨e, -⟩ <;> simp [e])
    (quiet_drop (quiet_le hq htotal) hend.run)
  have htime : ∀ x, k + 1 ≤ x + 1 →
      (t.rspStatus = .success ∧ k + 1 + u.ticksToIdle ≤ x + rest) ∨
        (t.rspStatus = .noClockDetected ∧ k + 1 + u.ticksToIdle ≤ x + 2) := fun x hx =>
    hrest.imp (fun ⟨e, _⟩ => ⟨hstatus.trans e, by omega⟩) (fun ⟨e, _⟩ => ⟨hstatus.trans e, by omega⟩)
  refine ⟨k + 1 + u.ticksToIdle, t, runs_add.mpr ⟨u, hend.run, hrun⟩, hidle, hvalid, fun hcoarse => ?_,
    hsame.trans_le hpolls, htime _ hticks, ?_⟩
  · obtain ⟨hpolls, hticks⟩ := hend.within_budget fun h =>
      hcoarse (coarseHitOnLastPoll_mono h (Nat.le_add_right _ _))
    exact ⟨hsame.trans_le hpolls, htime _ hticks⟩
  · intro j v hj hv
    rcases Nat.lt_or_ge j (k + 1) with hlt | hge
    · obtain ⟨d, w, hacq⟩ := hall j (Nat.lt_succ_iff.mp hlt)
      obtain rfl := runs_unique hacq.run hv
      exact hacq.st_ne_idle
    · obtain ⟨i, rfl⟩ := Nat.exists_eq_add_of_le hge
      obtain ⟨w, hw, hv⟩ := runs_add.mp hv
      obtain rfl := runs_unique hend.run hw
      exact hbusy i v (Nat.lt_of_add_lt_add_left hj) hv

end Sys2Proof.Machine
end

section
/-!
PROOFS. Every tick as one of nineteen moves (`Move`), and from it what the ticks of the FSM write and leave: its
transitions (O28), the internal registers (O18) and the bus registers (O49).
-/

namespace Sys2Proof.Machine

/-! ## The moves of the FSM (R35) -/

/-- What one tick without reset does, before the stream moves on: a constructor per branch of the states' steps, each
with the condition of its branch. -/
inductive Move (s : State) : State → Prop where
  /-- IDLE with no command (R200). -/
  | idles (hs : s.st = .idle) (hv : s.input.cmdValid = false) : Move s s.clearValid
  /-- IDLE accepts a command (R200). -/
  | latches (hs : s.st = .idle) (hv : s.input.cmdValid = true) :
    Move s (s.clearValid.latch (cmdOp s.input.cmd) (decide (cmdRsvd s.input.cmd ≠ 0#6)) (a16 (cmdAddrIn s.input.cmd))
      (cmdWdata s.input.cmd))
  /-- A waiting state counts (R38). -/
  | counts (hs : s.st ≠ .idle ∧ s.st ≠ .gen ∧ s.st ≠ .setup ∧ s.st ≠ .fin) (hc : 0 < s.cnt) : Move s s.clearValid.count
  /-- DISPATCH ends a reserved word (R208). -/
  | refuses (hs : s.st = .dispatch) (hc : s.cnt = 0) (hr : s.rsvdNz = true ∨ s.op = 0b11#2) :
    Move s s.clearValid.raiseNotImplemented
  /-- DISPATCH reports the strategies of LK (R129). -/
  | reports (hs : s.st = .dispatch) (hc : s.cnt = 0) (hr : s.rsvdNz = false) (ho : s.op = 0b10#2) :
    Move s (s.clearValid.finish .success none (lookup s.conf s.addr).1 (lookup s.conf s.addr).2)
  /-- DISPATCH routes an access to the generic unit (R204). -/
  | entersGen (hs : s.st = .dispatch) (hc : s.cnt = 0) (hr : s.rsvdNz = false) (ho : s.op = 0b00#2 ∨ s.op = 0b01#2)
    (hk : s.selected s.isWrite = .default) :
    Move s { s.clearValid with strat := s.selected s.isWrite, st := .gen, genFirst := true }
  /-- DISPATCH routes an access to the synchronized cycle (R205). -/
  | entersSetup (hs : s.st = .dispatch) (hc : s.cnt = 0) (hr : s.rsvdNz = false) (ho : s.op = 0b00#2 ∨ s.op = 0b01#2)
    (hk : s.selected s.isWrite = .syncPhi0 ∨ s.selected s.isWrite = .syncPhi0Skip)
    (hsup : s.conf.syncSupported = true) : Move s { s.clearValid with strat := s.selected s.isWrite, st := .setup }
  /-- DISPATCH turns away an access whose strategy this build has no cycle for (R206, R207). -/
  | turnsAway (hs : s.st = .dispatch) (hc : s.cnt = 0) (hr : s.rsvdNz = false) (ho : s.op = 0b00#2 ∨ s.op = 0b01#2)
    (hk : (s.selected s.isWrite = .syncPhi0 ∨ s.selected s.isWrite = .syncPhi0Skip) ∧ s.conf.syncSupported = false ∨
      s.selected s.isWrite = .reserved) :
    Move s (State.raiseNotImplemented { s.clearValid with strat := s.selected s.isWrite })
  /-- GEN waits for the generic unit (R136). -/
  | genWaits (hs : s.st = .gen) (hd : s.input.genDone = false) : Move s { s.clearValid with genFirst := false }
  /-- GEN ends the generic cycle (R136). -/
  | genEnds (hs : s.st = .gen) (hd : s.input.genDone = true) :
    Move s ((State.genBus s.isWrite { s.clearValid with genFirst := false }).finish .success
      (if s.isWrite then none else some s.input.genRdata) .default .default)
  /-- SETUP (R151). -/
  | setsUp (hs : s.st = .setup) : Move s (s.clearValid.setupTick s.isWrite)
  /-- A poll hits (R153). -/
  | locks (hs : s.st.polling = true) (hc : s.cnt = 0) (hh : s.st.hit s.input.phi0 = true) :
    Move s { s.clearValid.countPoll with st := s.st.afterLock, cnt := s.st.lockWait s.conf s.strat - 1 }
  /-- A poll misses at or past the budget (R153, R230). -/
  | aborts (hs : s.st.polling = true) (hc : s.cnt = 0) (hh : s.st.hit s.input.phi0 = false)
    (hu : s.conf.pollUnbounded = false) (hb : s.conf.pollBudget ≤ s.polls + 1) :
    Move s s.clearValid.countPoll.raiseNoClockDetected
  /-- A poll misses short of the budget (R153). -/
  | pollsAgain (hs : s.st.polling = true) (hc : s.cnt = 0) (hh : s.st.hit s.input.phi0 = false)
    (hb : s.conf.pollUnbounded = true ∨ s.polls + 1 < s.conf.pollBudget) :
    Move s { s.clearValid.countPoll with cnt := s.st.missWait s.conf - 1 }
  /-- The last WAIT tick raises PHI2 (R158). -/
  | rises (hs : s.st = .wait) (hc : s.cnt = 0) :
    Move s { s.clearValid with phi2R := true, st := .high, cnt := s.conf.tHigh - 1 }
  /-- The last HIGH tick lowers PHI2 (R159). -/
  | falls (hs : s.st = .high) (hc : s.cnt = 0) :
    Move s { s.clearValid with phi2R := false, st := .samp, cnt := s.conf.tSample }
  /-- The last SAMP tick (R160). -/
  | samples (hs : s.st = .samp) (hc : s.cnt = 0) :
    Move s { s.clearValid with
      scratch := if s.isWrite then s.scratch else reassemble s.conf (portSample s.conf s.input), st := .fin }
  /-- FIN reports Success (R162). -/
  | succeeds (hs : s.st = .fin) (hf : s.finStatus = .success) :
    Move s (State.finish .success (if s.isWrite then none else some s.scratch) .default .default
      { s.clearValid with rwR := true })
  /-- FIN reports NoClockDetected (R162). -/
  | fails (hs : s.st = .fin) (hf : s.finStatus ≠ .success) :
    Move s (State.finish .noClockDetected none .default .default { s.clearValid with rwR := true })

theorem State.move_of_dispatch {s : State} (hs : s.st = .dispatch) : Move s s.fsmTick := by
  rcases State.fsmTick_dispatch_cases hs with ⟨hc, e⟩ | ⟨hc, hr, e⟩ | ⟨hc, hr, ho, e⟩ | ⟨hc, hr, ho, e⟩ <;> rw [e]
  · exact .counts (by simp [hs]) hc
  · exact .refuses hs hc hr
  · exact .reports hs hc hr ho
  · rcases s.clearValid.route_cases (s.selected s.isWrite) with ⟨hk, e⟩ | ⟨hk, hsup, e⟩ | ⟨hk, e⟩ <;> rw [e]
    · exact .entersGen hs hc hr ho hk
    · exact .entersSetup hs hc hr ho hk hsup
    · exact .turnsAway hs hc hr ho hk

theorem State.move_of_polling {s : State} (hs : s.st.polling = true) : Move s s.fsmTick := by
  rcases State.fsmTick_polling_cases hs with ⟨hc, e⟩ | ⟨hc, hh, e⟩ | ⟨hc, hh, hu, hb, e⟩ | ⟨hc, hh, hb, e⟩ <;> rw [e]
  · exact .counts (by rcases FsmState.polling_cases hs with e | e | e <;> simp [e]) hc
  · exact .locks hs hc hh
  · exact .aborts hs hc hh hu hb
  · exact .pollsAgain hs hc hh hb

/-- The FSM's tick is a move. -/
theorem State.fsmTick_move (s : State) : Move s s.fsmTick := by
  cases hs : s.st with
  | idle =>
    cases hv : s.input.cmdValid with
    | true => rw [State.fsmTick_idle_accept hs hv]; exact .latches hs hv
    | false => rw [State.fsmTick_idle_nothing hs hv]; exact .idles hs hv
  | dispatch => exact State.move_of_dispatch hs
  | gen =>
    rw [State.fsmTick_gen hs]
    rcases s.clearValid.genTick_cases s.isWrite with ⟨hd, e⟩ | ⟨hd, e⟩ <;> rw [e]
    · exact .genWaits hs hd
    · exact .genEnds hs hd
  | setup => rw [State.fsmTick_setup hs]; exact .setsUp hs
  | clow | chigh | fine => exact State.move_of_polling (by rw [hs]; rfl)
  | wait =>
    rw [State.fsmTick_wait hs]
    rcases s.clearValid.waitTick_cases with ⟨hc, e⟩ | ⟨hc, e⟩ <;> rw [e]
    · exact .counts (by simp [hs]) hc
    · exact .rises hs hc
  | high =>
    rw [State.fsmTick_high hs]
    rcases s.clearValid.highTick_cases with ⟨hc, e⟩ | ⟨hc, e⟩ <;> rw [e]
    · exact .counts (by simp [hs]) hc
    · exact .falls hs hc
  | samp =>
    rw [State.fsmTick_samp hs]
    rcases s.clearValid.sampTick_cases s.isWrite with ⟨hc, e⟩ | ⟨hc, e⟩ <;> rw [e]
    · exact .counts (by simp [hs]) hc
    · exact .samples hs hc
  | fin =>
    rw [State.fsmTick_fin hs]
    rcases s.clearValid.finTick_cases s.isWrite with ⟨hf, e⟩ | ⟨hf, e⟩ <;> rw [e]
    · exact .succeeds hs hf
    · exact .fails hs hf

/-- A step without reset is a move, after which the stream moves on. -/
theorem move_of_step {s t : State} (hr : s.input.rstN = true) (h : step s = .next t) :
    ∃ u, Move s u ∧ t = u.advance := by
  refine ⟨s.fsmTick, s.fsmTick_move, ?_⟩
  rw [eq_fsmStep_of_step h, State.fsmStep, if_pos hr]

/-- A reset step is RESET (R250). -/
theorem eq_resetTick_of_step {s t : State} (hr : s.input.rstN = false) (h : step s = .next t) :
    t = s.resetTick.advance :=
  (Host.Outcome.next.inj ((step_reset hr).symm.trans h)).symm

/-! ## The transitions of the FSM (R49) -/

/-- Settles O28: the state each move ends in. -/
theorem stateTransitionsOfTheFsm : Obligations.StateTransitionsOfTheFsm := by
  unfold Obligations.StateTransitionsOfTheFsm
  intro s t h
  split
  case isFalse hr => rw [eq_resetTick_of_step (by simpa using hr) h]; rfl
  case isTrue hr =>
    obtain ⟨u, hm, rfl⟩ := move_of_step hr h
    rw [State.advance_st]
    cases hm with
    | counts hs => cases e : s.st <;> simp [e] at hs ⊢
    | locks hs | aborts hs | pollsAgain hs =>
      rcases FsmState.polling_cases hs with e | e | e <;> simp [e, FsmState.afterLock]
    | idles hs | latches hs | refuses hs | reports hs | entersGen hs | entersSetup hs | turnsAway hs | genWaits hs
    | genEnds hs | setsUp hs | rises hs | falls hs | samples hs | succeeds hs | fails hs => simp [hs]

/-! ## What the moves write (R36 to R42) -/

/-- Only IDLE writes the command latch (R36). -/
theorem Move.latch_eq {s t : State} (h : Move s t) (hs : s.st ≠ .idle) :
    t.op = s.op ∧ t.rsvdNz = s.rsvdNz ∧ t.addr = s.addr ∧ t.wdata = s.wdata := by
  cases h with
  | idles e | latches e => exact absurd e hs
  | _ => exact ⟨rfl, rfl, rfl, rfl⟩

/-- Only DISPATCH writes `strat` (R37). -/
theorem Move.strat_eq {s t : State} (h : Move s t) (hs : s.st ≠ .dispatch) : t.strat = s.strat := by
  cases h with
  | entersGen e | entersSetup e | turnsAway e => exact absurd e hs
  | _ => rfl

/-- Only the snapshot of a read writes `scratch` (R40). -/
theorem Move.scratch_eq {s t : State} (h : Move s t) (hs : s.st ≠ .samp ∨ s.isWrite = true) :
    t.scratch = s.scratch := by
  cases h with
  | samples e => exact if_pos (hs.resolve_left (not_not_intro e))
  | _ => rfl

/-- Only SETUP and the polling states write `fin_status` and `polls` (R39, R41). -/
theorem Move.finStatus_polls_eq {s t : State} (h : Move s t) (hsetup : s.st ≠ .setup) (hp : ¬ s.st.polling = true) :
    t.finStatus = s.finStatus ∧ t.polls = s.polls := by
  cases h with
  | setsUp e => exact absurd e hsetup
  | locks e | aborts e | pollsAgain e => exact absurd e hp
  | _ => exact ⟨rfl, rfl⟩

/-- GEN and FIN do not count (R38). -/
theorem Move.cnt_eq {s t : State} (h : Move s t) (hs : s.st = .gen ∨ s.st = .fin) : t.cnt = s.cnt := by
  cases h with
  | latches e | setsUp e | rises e | falls e => simp [e] at hs
  | counts e => simp [e] at hs
  | locks e | pollsAgain e => rcases hs with hs | hs <;> simp [hs, FsmState.polling] at e
  | _ => rfl

/-- Settles O18: the configuration is in the surroundings no step touches, the rest is the frame of the moves. -/
theorem registersWrittenByEachState : Obligations.RegistersWrittenByEachState := by
  unfold Obligations.RegistersWrittenByEachState
  intro s t h
  have hcfg : t.conf = s.conf := congrArg Subtype.val (step_cfg h)
  refine ⟨⟨step_cfg h, congrArg Config.syncSupported hcfg, fun a => by rw [hcfg]⟩, fun hr => ?_⟩
  obtain ⟨u, hm, rfl⟩ := move_of_step hr h
  refine ⟨hm.latch_eq, hm.strat_eq, hm.scratch_eq, fun ⟨hsetup, hclow, hchigh, hfine⟩ => ?_, hm.cnt_eq⟩
  refine hm.finStatus_polls_eq hsetup fun hp => ?_
  rcases FsmState.polling_cases hp with e | e | e
  · exact hclow e
  · exact hchigh e
  · exact hfine e

/-! ## The bus registers (R42, R169) -/

/-- Address, data and direction move only at SETUP and at the end of a generic cycle, RW there and at FIN. -/
theorem Move.bus_eq {s t : State} (h : Move s t) (hsetup : s.st ≠ .setup)
    (hgen : ¬ (s.st = .gen ∧ s.input.genDone = true)) :
    t.addrR = s.addrR ∧ t.doutR = s.doutR ∧ t.dirR = s.dirR ∧ (s.st ≠ .fin → t.rwR = s.rwR) := by
  cases h with
  | setsUp e => exact absurd e hsetup
  | genEnds e hd => exact absurd ⟨e, hd⟩ hgen
  | succeeds e | fails e => exact ⟨rfl, rfl, rfl, fun hs => absurd e hs⟩
  | _ => exact ⟨rfl, rfl, rfl, fun _ => rfl⟩

/-- PHI2 moves only at the last WAIT tick, up, and at the last HIGH tick, down (R158, R159, R169). -/
theorem Move.phi2R_cases {s t : State} (h : Move s t) :
    t.phi2R = s.phi2R ∨ (s.st = .wait ∧ s.cnt = 0 ∧ t.st = .high ∧ t.phi2R = true) ∨
      (s.st = .high ∧ s.cnt = 0 ∧ t.st = .samp ∧ t.phi2R = false) := by
  cases h with
  | rises hs hc => exact .inr (.inl ⟨hs, hc, rfl, rfl⟩)
  | falls hs hc => exact .inr (.inr ⟨hs, hc, rfl, rfl⟩)
  | _ => exact .inl rfl

/-- FIN is entered only from a polling state or from SAMP. -/
theorem Move.from_of_fin {s t : State} (h : Move s t) (ht : t.st = .fin) : s.st.polling = true ∨ s.st = .samp := by
  cases h with
  | locks hs | aborts hs | pollsAgain hs => exact .inl hs
  | samples hs => exact .inr hs
  | counts hs => exact absurd ht (by simp [hs])
  | idles hs | genWaits hs => exact absurd (hs.symm.trans ht) nofun
  | _ => cases ht

/-- Settles O49: where the moves write the bus registers, and that no abort leaves WAIT or HIGH. -/
theorem busRegistersMoveOnlyInCycles : Obligations.BusRegistersMoveOnlyInCycles := by
  unfold Obligations.BusRegistersMoveOnlyInCycles
  intro s t hr h
  obtain ⟨u, hm, rfl⟩ := move_of_step hr h
  simp only [State.advance_phi2R, State.advance_st]
  refine ⟨hm.bus_eq, fun hlow hhigh => ?_, fun hhigh hlow => ?_, fun hs ht => ?_, fun hs => ?_⟩
  · rcases hm.phi2R_cases with e | ⟨hs, hc, ht, -⟩ | ⟨-, -, -, e⟩
    · simp [hlow, hhigh] at e
    · exact ⟨hs, hc, ht⟩
    · simp [hhigh] at e
  · rcases hm.phi2R_cases with e | ⟨-, -, -, e⟩ | ⟨hs, hc, ht, -⟩
    · simp [hlow, hhigh] at e
    · simp [hlow] at e
    · exact ⟨hs, hc, ht⟩
  · rcases hm.from_of_fin ht with e | e <;> rcases hs with hs | hs <;> simp [hs, FsmState.polling] at e
  · have hne : s.st ≠ .setup ∧ s.st ≠ .gen ∧ s.st ≠ .fin ∧ s.st ≠ .wait ∧ s.st ≠ .high := by
      rcases hs with hs | hs <;> simp [hs]
    obtain ⟨hsetup, hgen, hfin, hwait, hhigh⟩ := hne
    obtain ⟨ha, hd, hdir, hrw⟩ := hm.bus_eq hsetup fun hg => hgen hg.1
    have hphi : u.phi2R = s.phi2R := hm.phi2R_cases.resolve_right
      (not_or.mpr ⟨fun ⟨e, _⟩ => hwait e, fun ⟨e, _⟩ => hhigh e⟩)
    simp [State.busRegs, ha, hd, hdir, hrw hfin, hphi]

end Sys2Proof.Machine
end

section
/-!
PROOFS. What a tick reads of its sample of the input pins: where two samples agree on that (`SameReads`), the step is
the same. From it, who reads PORT_IN (O47) and CMD, and the output pins (O17).
-/

namespace Sys2Proof.Machine

/-! ## What a tick reads of its sample -/

/-- The samples `i` and `j` agree on every pin that a tick without reset reads at `s`. -/
structure SameReads (s : State) (i j : Input) : Prop where
  /-- R137: GEN_DONE is read at every tick. -/
  genDone : i.genDone = j.genDone
  /-- R200: CMD is read in IDLE, where it is offered. -/
  command : s.st = .idle → i.cmdValid = j.cmdValid ∧ (j.cmdValid = true → i.cmd = j.cmd)
  /-- R136: the generic unit's byte is read in GEN. -/
  genRdata : s.st = .gen → i.genRdata = j.genRdata
  /-- R153: PHI0_IN is read at polls. -/
  phi0 : s.st.polling = true → s.cnt = 0 → i.phi0 = j.phi0
  /-- R160: PORT_IN is read at the snapshot tick of a read. -/
  ports : s.st = .samp → s.cnt = 0 → s.isWrite = false → portSample s.conf i = portSample s.conf j

section Reads
variable {s : State} {i j : Input}

/-- A state that waits reads no more than its action does. -/
theorem State.whenDone_withInput {act : State → State}
    (h : s.cnt = 0 → act (s.withInput i) = (act (s.withInput j)).withInput i) :
    (s.withInput i).whenDone act = ((s.withInput j).whenDone act).withInput i := by
  rcases Nat.eq_zero_or_pos s.cnt with hc | hc
  · rw [State.whenDone_of_zero (s := s.withInput i) act hc, State.whenDone_of_zero (s := s.withInput j) act hc, h hc]
  · rw [State.whenDone_of_pos (s := s.withInput i) act hc, State.whenDone_of_pos (s := s.withInput j) act hc]
    rfl

/-- A poll reads no more than its condition and its branches do. -/
theorem State.poll_withInput (hit : Bool) {f g : State → State}
    (hf : f (s.countPoll.withInput i) = (f (s.countPoll.withInput j)).withInput i)
    (hg : g (s.countPoll.withInput i) = (g (s.countPoll.withInput j)).withInput i) :
    (s.withInput i).poll hit f g = ((s.withInput j).poll hit f g).withInput i := by
  simp only [State.poll, State.withInput_conf, State.withInput_polls]
  split
  · exact hf
  · rfl
  · exact hg

/-- A waiting state that polls reads its condition, and that when the counter is done. -/
theorem State.whenDone_poll_withInput {hit : State → Bool} {f g : State → State}
    (hh : s.cnt = 0 → hit (s.withInput i) = hit (s.withInput j))
    (hf : f (s.countPoll.withInput i) = (f (s.countPoll.withInput j)).withInput i)
    (hg : g (s.countPoll.withInput i) = (g (s.countPoll.withInput j)).withInput i) :
    (s.withInput i).whenDone (fun s => s.poll (hit s) f g) =
      ((s.withInput j).whenDone (fun s => s.poll (hit s) f g)).withInput i :=
  State.whenDone_withInput fun hc => by
    simp only [hh hc]
    exact State.poll_withInput _ hf hg

theorem State.route_withInput (k : Strat) : (s.withInput i).route k = ((s.withInput j).route k).withInput i := by
  cases k with
  | default | reserved => rfl
  | syncPhi0 | syncPhi0Skip =>
    cases hc : s.conf.syncSupported with
    | true =>
      rw [State.route_sync (s := s.withInput i) (by simp) hc, State.route_sync (s := s.withInput j) (by simp) hc]
      rfl
    | false =>
      rw [State.route_unsupported (s := s.withInput i) (by simp) hc,
        State.route_unsupported (s := s.withInput j) (by simp) hc]
      rfl

/-- DISPATCH reads no input. -/
theorem State.fsmTick_dispatch_withInput (hs : s.st = .dispatch) :
    (s.withInput i).fsmTick = ((s.withInput j).fsmTick).withInput i := by
  have hop : ∀ o : BitVec 2, o = 0b11#2 ∨ o = 0b10#2 ∨ o = 0b00#2 ∨ o = 0b01#2 := by decide
  by_cases hr : s.rsvdNz = true ∨ s.op = 0b11#2
  · rw [State.fsmTick_dispatch_reserved (s := s.withInput i) hs hr,
      State.fsmTick_dispatch_reserved (s := s.withInput j) hs hr]
    exact State.whenDone_withInput (s := s.clearValid) fun _ => rfl
  · obtain ⟨hr, h3⟩ := not_or.mp hr
    rw [Bool.not_eq_true] at hr
    rcases (hop s.op).resolve_left h3 with ho | ho
    · rw [State.fsmTick_dispatch_lookup (s := s.withInput i) hs hr ho,
        State.fsmTick_dispatch_lookup (s := s.withInput j) hs hr ho]
      exact State.whenDone_withInput (s := s.clearValid) fun _ => rfl
    · rw [State.fsmTick_dispatch_access (s := s.withInput i) hs hr ho,
        State.fsmTick_dispatch_access (s := s.withInput j) hs hr ho]
      exact State.whenDone_withInput (s := s.clearValid) fun _ => State.route_withInput _

/-- The polling states read PHI0_IN when the counter is done. -/
theorem State.fsmTick_polling_withInput (hs : s.st.polling = true) (hp : s.cnt = 0 → i.phi0 = j.phi0) :
    (s.withInput i).fsmTick = ((s.withInput j).fsmTick).withInput i := by
  rcases FsmState.polling_cases hs with hs | hs | hs
  · rw [State.fsmTick_clow (s := s.withInput i) hs, State.fsmTick_clow (s := s.withInput j) hs]
    exact State.whenDone_poll_withInput (s := s.clearValid) (fun hc => congrArg (!·) (hp hc)) rfl rfl
  · rw [State.fsmTick_chigh (s := s.withInput i) hs, State.fsmTick_chigh (s := s.withInput j) hs]
    exact State.whenDone_poll_withInput (s := s.clearValid) hp rfl rfl
  · rw [State.fsmTick_fine (s := s.withInput i) hs, State.fsmTick_fine (s := s.withInput j) hs]
    exact State.whenDone_poll_withInput (s := s.clearValid) (fun hc => congrArg (!·) (hp hc)) rfl rfl

/-- Two samples that agree on what a tick reads give the same tick, but for the sample itself. -/
theorem SameReads.fsmTick (h : SameReads s i j) : (s.withInput i).fsmTick = ((s.withInput j).fsmTick).withInput i := by
  cases hs : s.st with
  | idle =>
    obtain ⟨hv, hcmd⟩ := h.command hs
    cases hj : j.cmdValid with
    | true =>
      rw [State.fsmTick_idle_accept (s := s.withInput i) hs (hv.trans hj),
        State.fsmTick_idle_accept (s := s.withInput j) hs hj, State.withInput_input, State.withInput_input, hcmd hj]
      rfl
    | false =>
      rw [State.fsmTick_idle_nothing (s := s.withInput i) hs (hv.trans hj),
        State.fsmTick_idle_nothing (s := s.withInput j) hs hj]
      rfl
  | dispatch => exact State.fsmTick_dispatch_withInput hs
  | gen =>
    rw [State.fsmTick_gen (s := s.withInput i) hs, State.fsmTick_gen (s := s.withInput j) hs]
    cases hd : j.genDone <;>
      simp only [State.genTick, State.clearValid_input, State.withInput_input, h.genDone, h.genRdata hs, hd, if_true,
        Bool.false_eq_true, if_false] <;> rfl
  | setup =>
    rw [State.fsmTick_setup (s := s.withInput i) hs, State.fsmTick_setup (s := s.withInput j) hs]
    rfl
  | clow | chigh | fine =>
    have hp : s.st.polling = true := by rw [hs]; rfl
    exact State.fsmTick_polling_withInput hp (h.phi0 hp)
  | wait =>
    rw [State.fsmTick_wait (s := s.withInput i) hs, State.fsmTick_wait (s := s.withInput j) hs]
    exact State.whenDone_withInput (s := s.clearValid) fun _ => rfl
  | high =>
    rw [State.fsmTick_high (s := s.withInput i) hs, State.fsmTick_high (s := s.withInput j) hs]
    exact State.whenDone_withInput (s := s.clearValid) fun _ => rfl
  | samp =>
    rw [State.fsmTick_samp (s := s.withInput i) hs, State.fsmTick_samp (s := s.withInput j) hs]
    refine State.whenDone_withInput (s := s.clearValid) fun hc => ?_
    have hbyte : (if s.isWrite then s.scratch else reassemble s.conf (portSample s.conf i)) =
        if s.isWrite then s.scratch else reassemble s.conf (portSample s.conf j) := by
      cases hw : s.isWrite with
      | true => rfl
      | false => rw [h.ports hs hc hw]
    exact congrArg (fun b => { s.clearValid.withInput i with scratch := b, st := .fin }) hbyte
  | fin =>
    rw [State.fsmTick_fin (s := s.withInput i) hs, State.fsmTick_fin (s := s.withInput j) hs]
    by_cases hf : s.finStatus = .success <;>
      simp only [State.finTick, State.clearValid_finStatus, State.withInput_finStatus, hf, if_true, if_false] <;> rfl

/-- Two samples that agree on RST_N and, without reset, on what the tick reads give the same step. -/
theorem step_withInput (hr : i.rstN = j.rstN) (h : j.rstN = true → SameReads s i j) :
    step (s.withInput i) = step (s.withInput j) := by
  cases hj : j.rstN with
  | false => exact (step_reset (s := s.withInput i) (hr.trans hj)).trans (step_reset (s := s.withInput j) hj).symm
  | true =>
    have hsame := h hj
    have hd : (s.withInput i).dutyBroken = (s.withInput j).dutyBroken := by
      simp only [State.dutyBroken, State.withInput_input, hsame.genDone]
      rfl
    cases hb : (s.withInput j).dutyBroken with
    | some r =>
      rw [step_refused (s := s.withInput i) (hr.trans hj) (hd.trans hb), step_refused (s := s.withInput j) hj hb]
    | none =>
      rw [step_eq_fsmTick (s := s.withInput i) (hr.trans hj) (hd.trans hb),
        step_eq_fsmTick (s := s.withInput j) hj hb, hsame.fsmTick]
      rfl

end Reads

/-! ## PORT_IN (R160) -/

/-- A snapshot tick writes `scratch` and enters FIN. -/
theorem step_snapshot {s t : State} (hr : s.input.rstN = true) (hs : s.st = .samp) (hc : s.cnt = 0)
    (h : step s = .next t) : t = State.advance { s.clearValid with scratch := t.scratch, st := .fin } := by
  have ht : t = State.advance { s.clearValid with
      scratch := if s.isWrite then s.scratch else reassemble s.conf (portSample s.conf s.input), st := .fin } := by
    rw [eq_fsmStep_of_step h, State.fsmStep, if_pos hr, State.fsmTick_samp hs]
    exact congrArg State.advance (State.whenDone_of_zero (s := s.clearValid) _ hc)
  rw [ht]
  rfl

/-- Settles O47: PORT_IN enters `SameReads` by the snapshot of a read alone. -/
theorem portsReadOnlyAtTheSnapshot : Obligations.PortsReadOnlyAtTheSnapshot := by
  unfold Obligations.PortsReadOnlyAtTheSnapshot
  intro s p
  have hreads : (s.st = .samp → s.cnt = 0 → s.isWrite = false →
      p.toList.take s.conf.numPorts = portSample s.conf s.input) →
      step (s.withInput { s.input with ports := p }) = step (s.withInput s.input) := fun hp =>
    step_withInput rfl fun _ => ⟨rfl, fun _ => ⟨rfl, fun _ => rfl⟩, fun _ => rfl, fun _ _ => rfl, hp⟩
  refine ⟨fun hn => hreads fun hs hc hw => absurd ⟨hs, hc, hw⟩ hn, fun hp => hreads fun _ _ _ => hp, ?_⟩
  intro t u ht hu
  by_cases hsnap : s.input.rstN = true ∧ s.st = .samp ∧ s.cnt = 0
  · obtain ⟨hr, hs, hc⟩ := hsnap
    rw [step_snapshot (s := s.withInput { s.input with ports := p }) hr hs hc ht,
      step_snapshot (s := s.withInput s.input) hr hs hc hu]
    rfl
  · have hsame : step (s.withInput { s.input with ports := p }) = step (s.withInput s.input) :=
      step_withInput rfl fun hr => ⟨rfl, fun _ => ⟨rfl, fun _ => rfl⟩, fun _ => rfl, fun _ _ => rfl,
        fun hs hc _ => absurd ⟨hr, hs, hc⟩ hsnap⟩
    rw [Host.Outcome.next.inj (hu.symm.trans (hsame.symm.trans ht))]

/-! ## CMD and the output pins (R45 to R48) -/

theorem State.cmdReady_iff (s : State) : s.cmdReady = true ↔ s.st = .idle ∧ s.input.rstN = true := by
  simp [State.cmdReady]

/-- Where CMD_READY is 0 the step reads nothing of the command offered. -/
theorem step_withInput_of_not_ready {s : State} (h : s.cmdReady = false) (v : Bool) (w : CmdWord) :
    step (s.withInput { s.input with cmdValid := v, cmd := w }) = step (s.withInput s.input) :=
  step_withInput rfl fun hr => ⟨rfl, fun hs => absurd (s.cmdReady_iff.mpr ⟨hs, hr⟩) (by simp [h]), fun _ => rfl,
    fun _ _ => rfl, fun _ _ _ => rfl⟩

theorem FsmState.inhibits_iff (st : FsmState) : st.inhibits = true ↔
    st = .clow ∨ st = .chigh ∨ st = .fine ∨ st = .wait ∨ st = .high ∨ st = .samp := by
  cases st <;> decide

theorem FsmState.inhibits_iff_code (st : FsmState) : st.inhibits = true ↔ 4 ≤ st.code.toNat ∧ st.code.toNat ≤ 9 := by
  cases st <;> decide

/-- Settles O17: the pins are read off the state; a GEN step keeps the command latch behind the request pins. -/
theorem outputPinsOfTheState : Obligations.OutputPinsOfTheState := by
  unfold Obligations.OutputPinsOfTheState
  intro s
  refine ⟨s.cmdReady_iff, by simp [State.accepts], step_withInput_of_not_ready, s.st.inhibits_iff,
    s.st.inhibits_iff_code, fun hg => if_pos hg, fun hg => if_neg hg, rfl, by simp [State.genReq], rfl, rfl, rfl, ?_⟩
  intro hg hr t h
  obtain ⟨u, hm, rfl⟩ := move_of_step hr h
  obtain ⟨hop, -, haddr, hwdata⟩ := hm.latch_eq (by simp [hg])
  exact ⟨congrArg (·.getLsbD 0) hop, haddr, hwdata⟩

end Sys2Proof.Machine
end

section
/-!
PROOFS. The word rebuilt from the latch decodes to the command accepted (O8); the reset state (O12, O13), the quiescent
engine in IDLE (O16), and where an instruction has no tick (O24).
-/

namespace Sys2Proof.Machine

/-! ## The latched word (R36, R100; log 16) -/

theorem decodeCmd_encodeCmd_rd (a : HostAddr) (d : Byte) : decodeCmd (encodeCmd 0b00#2 a d) = .ok (.rd a d) := by
  simp [decodeCmd]

theorem decodeCmd_encodeCmd_wr (a : HostAddr) (d : Byte) : decodeCmd (encodeCmd 0b01#2 a d) = .ok (.wr a d) := by
  simp [decodeCmd]

theorem decodeCmd_encodeCmd_lk (a : HostAddr) (d : Byte) : decodeCmd (encodeCmd 0b10#2 a d) = .ok (.lk a d) := by
  simp [decodeCmd]

/-- A word with a reserved bit set, or with OP = 11, is reserved (R97, R98). -/
theorem decodeCmd_reserved {w : CmdWord} (h : cmdRsvd w ≠ 0#6 ∨ cmdOp w = 0b11#2) : ∃ r, decodeCmd w = .error r := by
  by_cases hr : cmdRsvd w = 0#6
  · exact ⟨.reservedOp, by simp [decodeCmd, hr, h.resolve_left (not_not_intro hr)]⟩
  · exact ⟨.reservedBits, if_pos hr⟩

/-- Without a reserved bit the rebuilt word is an assembled command word. -/
theorem State.latchedWord_eq_encodeCmd {s : State} (h : s.rsvdNz = false) :
    s.latchedWord = encodeCmd s.op (0#16 ++ s.addr) s.wdata := by
  simp [State.latchedWord, encodeCmd, h]

/-- The latch of a word with no reserved bit gives its command word with ADDR_IN[31:16] cleared. -/
theorem latchedWord_latch {w : CmdWord} (h : cmdRsvd w = 0#6) (s : State) :
    (s.latch (cmdOp w) (decide (cmdRsvd w ≠ 0#6)) (a16 (cmdAddrIn w)) (cmdWdata w)).latchedWord =
      encodeCmd (cmdOp w) (((cmdAddrIn w).extractLsb' 0 16).setWidth 32) (cmdWdata w) := by
  rw [State.latchedWord_eq_encodeCmd (by simp [h])]
  congr 1
  exact (BitVec.setWidth_eq_append (by decide)).symm

/-- Settles O8: by the four answers of the decoder. -/
theorem latchKeepsTheCommand : Obligations.LatchKeepsTheCommand := by
  unfold Obligations.LatchKeepsTheCommand
  intro s w t
  rcases decodeCmd_cases w with ⟨hr, ho, e⟩ | ⟨hr, ho, e⟩ | ⟨hr, ho, e⟩ | ⟨hr, r, e⟩
  · have ht : t.latchedWord = _ := latchedWord_latch hr s
    simp [e, ht, ho, decodeCmd_encodeCmd_rd]
  · have ht : t.latchedWord = _ := latchedWord_latch hr s
    simp [e, ht, ho, decodeCmd_encodeCmd_wr]
  · have ht : t.latchedWord = _ := latchedWord_latch hr s
    simp [e, ht, ho, decodeCmd_encodeCmd_lk]
  · have ht : ∃ r', decodeCmd t.latchedWord = .error r' :=
      decodeCmd_reserved (by simpa [State.cmdRsvd_latchedWord_eq_zero, t] using hr)
    simp [e, ht]

/-! ## The reset state (R61) -/

/-- Settles O12: the values are those of `State.resetOf`, and the pins follow. -/
theorem resetStateValues : Obligations.ResetStateValues := by
  unfold Obligations.ResetStateValues
  refine ⟨⟨Config.chosen, rfl⟩, fun c => ?_⟩
  have hready : ∀ i : Input, i.rstN = true → ((State.resetOf c).withInput i).cmdReady = true := fun i hi =>
    (State.cmdReady_iff _).mpr ⟨rfl, hi⟩
  exact ⟨rfl, rfl, rfl, rfl, rfl, rfl, rfl, rfl, rfl, rfl, rfl, rfl, rfl, rfl, rfl, rfl, rfl, rfl, rfl, rfl, rfl,
    hready, rfl, rfl, rfl, rfl, rfl⟩

/-- The reset state differs from the one a RESET tick leaves by its draws alone, of which `Inv` says nothing in IDLE. -/
theorem inv_resetOf (c : WfConfig) : Inv (State.resetOf c) :=
  { inv_resetTick (State.resetOf c) with busHeld := nofun }

/-- Settles O13: for every configuration, and so for the chosen one. -/
theorem resetSatisfiesInv : Obligations.ResetSatisfiesInv :=
  ⟨inv_resetOf, inv_resetOf Config.chosen⟩

/-! ## IDLE (R62, R254) -/

/-- Settles O16: outside the bus RW is read and PHI2 low; in IDLE the pins are the registers. -/
theorem idleIsQuiescent : Obligations.IdleIsQuiescent := by
  unfold Obligations.IdleIsQuiescent
  intro s h hs
  have hrw : s.rwR = true := h.rwR_eq_true (by rw [hs]; rfl)
  have hphi : s.phi2R = false := h.phi2R_eq_false (by simp [hs])
  have hpins : s.busPins = s.busRegs := if_neg (by simp [hs])
  refine ⟨⟨?_, ?_, ?_⟩, by simp [State.genReq, hs], fun hr hv => ?_⟩
  · rw [hpins]; exact hrw
  · rw [hpins]; exact hphi
  · exact congrArg FsmState.inhibits hs
  · rw [State.accepts, hv, s.cmdReady_iff.mpr ⟨hs, hr⟩]; rfl

/-! ## Where an instruction has no tick (log 13) -/

theorem execLk_elsewhere {s : State} (hi : s.st ≠ .idle) (hd : s.st ≠ .dispatch) (a : HostAddr) (d : Byte) :
    exec (.lk a d) s = .refused .notAtThisTick := by
  change execLk a d s = .refused .notAtThisTick
  unfold execLk
  split
  · contradiction
  · contradiction
  · rfl

theorem genericCycle_elsewhere {s : State} (hd : s.st ≠ .dispatch) (hg : s.st ≠ .gen) (w : Bool) :
    genericCycle w s = .refused .notAtThisTick := by
  unfold genericCycle
  split
  · contradiction
  · contradiction
  · rfl

theorem syncCycle_elsewhere {s : State} (h : s.st = .idle ∨ s.st = .gen) (w : Bool) (k : Strat) :
    syncCycle w k s = .refused .notAtThisTick := by
  rcases h with h | h <;> simp [syncCycle, State.syncTick, orNotAtThisTick, h]

/-- Settles O24: the match on the state of each kind of row falls to its last arm. -/
theorem whereInstructionsHaveNoTick : Obligations.WhereInstructionsHaveNoTick := by
  unfold Obligations.WhereInstructionsHaveNoTick
  refine fun s i => ⟨?_, fun w hw hd hg => ?_, fun w k hk hs => ?_⟩
  · rintro ⟨a, d, rfl⟩ hi hd
    exact execLk_elsewhere hi hd a d
  · rw [exec_generic hw, genericCycle_elsewhere hd hg]
  · rw [exec_sync hk, syncCycle_elsewhere hs]

end Sys2Proof.Machine
end

section
/-!
PROOFS. The strategy lookup's first match (O33), the response as the one way from a busy engine to IDLE (O29), and the
run of LK from its acceptance to its response (O25).
-/

namespace Sys2Proof.Machine

/-! ## The strategy lookup (R123) -/

/-- Entries that are neither sentinels nor matches do not matter to the lookup. -/
theorem servingIn_append_of_miss {r : RangeArith} {a : Addr} (pre l : List Entry)
    (h : ∀ x ∈ pre, x.length ≠ 0#16 ∧ covers r x a = false) : servingIn r a (pre ++ l) = servingIn r a l := by
  induction pre with
  | nil => rfl
  | cons e rest ih =>
    obtain ⟨⟨hz, hmiss⟩, hrest⟩ := List.forall_mem_cons.mp h
    rw [List.cons_append, servingIn_miss _ hz hmiss, ih hrest]

/-- Settles O33: the misses are skipped, and the match after them serves. -/
theorem firstMatchWins : Obligations.FirstMatchWins := by
  unfold Obligations.FirstMatchWins
  intro c a pre post e htable hpre he
  have hserving : servingEntry c a = e := by
    rw [servingEntry, htable, servingIn_append_of_miss _ _ hpre, servingIn_hit _ he, Option.getD_some]
  rw [lookup, hserving]

/-! ## Responses (R214) -/

theorem FsmState.afterLock_ne_idle (st : FsmState) : st.afterLock ≠ .idle := by
  cases st <;> simp [FsmState.afterLock]

theorem FsmState.ne_idle_of_polling {st : FsmState} (h : st.polling = true) : st ≠ .idle := by
  rintro rfl; simp [FsmState.polling] at h

/-- A busy engine enters IDLE by the moves that respond, and by no other. -/
theorem Move.idle_iff_responds {s t : State} (h : Move s t) (hs : s.st ≠ .idle) :
    t.st = .idle ↔ t.rspValid = true := by
  have hbusy : ∀ {u : State}, u.st ≠ .idle → u.rspValid = false → (u.st = .idle ↔ u.rspValid = true) :=
    fun hst hv => by simp [hst, hv]
  cases h with
  | idles e | latches e => exact absurd e hs
  | refuses | reports | turnsAway | genEnds | succeeds | fails => exact iff_of_true rfl rfl
  | counts | genWaits | pollsAgain => exact hbusy hs rfl
  | locks => exact hbusy (FsmState.afterLock_ne_idle _) rfl
  | entersGen | entersSetup | setsUp | aborts | rises | falls | samples => exact hbusy nofun rfl

/-- IDLE does not respond. -/
theorem Move.rspValid_of_idle {s t : State} (h : Move s t) (hs : s.st = .idle) : t.rspValid = false := by
  cases h with
  | refuses e | reports e | turnsAway e | genEnds e | succeeds e | fails e => exact absurd (hs.symm.trans e) nofun
  | _ => rfl

/-- Settles O29: by the moves, of which exactly the responding ones lead from a busy state to IDLE. -/
theorem busyUntilTheResponse : Obligations.BusyUntilTheResponse := by
  unfold Obligations.BusyUntilTheResponse
  intro s t hr h
  obtain ⟨u, hm, rfl⟩ := move_of_step hr h
  exact ⟨hm.idle_iff_responds, hm.rspValid_of_idle⟩

/-! ## The run of LK (R129, R266) -/

/-- `t` is the state `k` ticks after `s`, where IDLE accepted the command on CMD, and it is still in DISPATCH, counting
T_DISPATCH down, with that command in the latch and the bus registers of `s`. -/
structure Dispatching (s : State) (k : Nat) (t : State) : Prop where
  run : Runs k s t
  st : t.st = .dispatch
  count : t.cnt + k = s.conf.tDispatch
  op : t.op = cmdOp s.input.cmd
  rsvdNz : t.rsvdNz = decide (cmdRsvd s.input.cmd ≠ 0#6)
  addr : t.addr = a16 (cmdAddrIn s.input.cmd)
  busRegs : t.busRegs = s.busRegs

theorem Dispatching.conf_eq {s t : State} {k : Nat} (h : Dispatching s k t) : t.conf = s.conf := by
  simp only [State.conf, runs_cfg h.run]

/-- The tick after the acceptance is the first of DISPATCH (R200). -/
theorem dispatching_one {s : State} (hs : s.st = .idle) (hv : s.input.cmdValid = true) (hq : s.quiet 1) :
    Dispatching s 1 s.fsmTick.advance := by
  obtain ⟨-, -, -, -, -, -, hpos⟩ := s.timing_pos
  have hrun := runs_one.mpr (step_quiet hq)
  rw [State.fsmTick_idle_accept hs hv] at hrun ⊢
  exact ⟨hrun, rfl, Nat.sub_add_cancel hpos, rfl, rfl, rfl, rfl⟩

/-- DISPATCH counts (R201). -/
theorem Dispatching.next {s t : State} {k : Nat} (h : Dispatching s k t) (hk : k < s.conf.tDispatch)
    (hq : t.quiet 1) : Dispatching s (k + 1) t.fsmTick.advance := by
  have hcount := h.count
  have hpos : 0 < t.cnt := by omega
  have hrun := runs_snoc.mpr ⟨t, h.run, step_quiet hq⟩
  have htick : t.fsmTick = t.clearValid.count := by
    rcases State.fsmTick_dispatch_cases h.st with ⟨-, e⟩ | ⟨hc, -⟩ | ⟨hc, -⟩ | ⟨hc, -⟩
    · exact e
    all_goals exact absurd hc hpos.ne'
  rw [htick] at hrun ⊢
  refine { h with run := hrun, count := ?_ }
  show t.cnt - 1 + (k + 1) = s.conf.tDispatch
  omega

/-- An accepted command spends the ticks 1 to T_DISPATCH in DISPATCH. -/
theorem dispatching {s : State} (hs : s.st = .idle) (hv : s.input.cmdValid = true) (hq : s.quiet s.conf.tDispatch)
    (k : Nat) (hk : k < s.conf.tDispatch) : ∃ t, Dispatching s (k + 1) t := by
  induction k with
  | zero => exact ⟨_, dispatching_one hs hv (quiet_le hq hk)⟩
  | succ k ih =>
    obtain ⟨t, ht⟩ := ih (Nat.lt_of_succ_lt hk)
    exact ⟨_, ht.next hk (quiet_drop (quiet_le hq hk) ht.run)⟩

/-- The tick at which DISPATCH ends. -/
theorem dispatching_last {s : State} (hs : s.st = .idle) (hv : s.input.cmdValid = true)
    (hq : s.quiet s.conf.tDispatch) : ∃ t, Dispatching s s.conf.tDispatch t ∧ t.cnt = 0 := by
  obtain ⟨-, -, -, -, -, -, hpos⟩ := s.timing_pos
  obtain ⟨t, ht⟩ := dispatching hs hv hq (s.conf.tDispatch - 1) (Nat.sub_one_lt_of_lt hpos)
  rw [Nat.sub_add_cancel hpos] at ht
  exact ⟨t, ht, Nat.add_eq_right.mp ht.count⟩

/-- Until DISPATCH ends the run is at its start or in DISPATCH. -/
theorem dispatching_of_runs {s t : State} {k : Nat} (hs : s.st = .idle) (hv : s.input.cmdValid = true)
    (hq : s.quiet s.conf.tDispatch) (hk : k ≤ s.conf.tDispatch) (ht : Runs k s t) :
    (k = 0 ∧ t = s) ∨ Dispatching s k t := by
  cases k with
  | zero => exact .inl ⟨rfl, runs_zero.mp ht⟩
  | succ k =>
    obtain ⟨u, hu⟩ := dispatching hs hv hq k hk
    exact .inr (runs_unique hu.run ht ▸ hu)

/-- In IDLE and DISPATCH the inhibit window is closed, and the bus pins are the registers (R46, R47). -/
theorem pins_outside_cycles {s t : State} (hs : s.st = .idle) (ht : t.st = .idle ∨ t.st = .dispatch)
    (hbus : t.busRegs = s.busRegs) : t.irqInhibit = false ∧ t.busPins = s.busPins := by
  have hpins : s.busPins = s.busRegs := if_neg (by simp [hs])
  have hpins' : t.busPins = t.busRegs := if_neg (by rcases ht with e | e <;> simp [e])
  refine ⟨?_, by rw [hpins, hpins', hbus]⟩
  rcases ht with e | e <;> exact congrArg FsmState.inhibits e

/-- The word that decodes to LK has no reserved bit, OP = 10 and LK's address (R96, R97). -/
theorem fields_of_decodeCmd_lk {w : CmdWord} {a : HostAddr} {d : Byte} (h : decodeCmd w = .ok (.lk a d)) :
    cmdRsvd w = 0#6 ∧ cmdOp w = 0b10#2 ∧ cmdAddrIn w = a := by
  rcases decodeCmd_cases w with ⟨-, -, e⟩ | ⟨-, -, e⟩ | ⟨hr, ho, e⟩ | ⟨-, r, e⟩ <;> rw [e] at h <;> cases h
  exact ⟨hr, ho, rfl⟩

/-- The last DISPATCH tick of LK responds with the strategies of its address (R129). -/
theorem Dispatching.lk_responds {s t : State} {k : Nat} (h : Dispatching s k t) (hc : t.cnt = 0) (hq : t.quiet 1)
    {a : HostAddr} {d : Byte} (hlk : decodeCmd s.input.cmd = .ok (.lk a d)) :
    ∃ u, Runs (k + 1) s u ∧ u.st = .idle ∧
      u.hasResponse .success none (lookup s.conf (a16 a)).1 (lookup s.conf (a16 a)).2 ∧ u.busRegs = s.busRegs := by
  obtain ⟨hrsvd, hop, haddr⟩ := fields_of_decodeCmd_lk hlk
  have hlookup : t.fsmTick = t.clearValid.finish .success none (lookup t.conf t.addr).1 (lookup t.conf t.addr).2 :=
    (State.fsmTick_dispatch_lookup h.st (by simp [h.rsvdNz, hrsvd]) (h.op.trans hop)).trans
      (State.whenDone_of_zero (s := t.clearValid) _ hc)
  have hrun := runs_snoc.mpr ⟨t, h.run, step_quiet hq⟩
  rw [hlookup, h.conf_eq, h.addr, haddr] at hrun
  exact ⟨_, hrun, rfl, ⟨rfl, rfl, rfl, fun _ => rfl, rfl, rfl⟩, h.busRegs⟩

/-- Settles O25: T_DISPATCH ticks of DISPATCH, the last of which responds. -/
theorem lkRunResponds : Obligations.LkRunResponds := by
  unfold Obligations.LkRunResponds
  intro s a d hs hv hlk hq
  have hq' : s.quiet s.conf.tDispatch := quiet_le hq (Nat.le_succ _)
  obtain ⟨u, hu, hc⟩ := dispatching_last hs hv hq'
  obtain ⟨v, hrun, hidle, hresp, hbus⟩ := hu.lk_responds hc (quiet_drop hq hu.run) hlk
  refine ⟨⟨v, hrun, hidle, hresp⟩, fun k t hk ht => ?_⟩
  rcases Nat.le_succ_iff.mp hk with hle | rfl
  · rcases dispatching_of_runs hs hv hq' hle ht with ⟨rfl, rfl⟩ | h
    · exact ⟨congrArg FsmState.inhibits hs, rfl, nofun⟩
    · obtain ⟨hirq, hpins⟩ := pins_outside_cycles hs (.inr h.st) h.busRegs
      exact ⟨hirq, hpins, fun _ _ => h.st⟩
  · obtain rfl := runs_unique hrun ht
    obtain ⟨hirq, hpins⟩ := pins_outside_cycles hs (.inl hidle) hbus
    exact ⟨hirq, hpins, fun _ hlt => absurd hlt (lt_irrefl _)⟩

end Sys2Proof.Machine
end

section
/-!
PROOFS. One PHI2 pulse in a synchronized cycle that succeeds, none in one that aborts (O55). PHI2 is high in HIGH, and
from WAIT on the state fixes how many ticks are left to the response (`State.ticksToIdle`); so the pulse is told by the
ticks left, counted from the end of the cycle.
-/

namespace Sys2Proof.Machine

/-- Runs keep the invariant (O14). -/
theorem Inv.of_runs {n : Nat} {s t : State} (h : Inv s) (hr : Runs n s t) : Inv t := by
  induction n generalizing s with
  | zero => rwa [runs_zero.mp hr]
  | succ n ih =>
    obtain ⟨u, hu, hr⟩ := runs_succ.mp hr
    exact ih (stepKeepsInv s u h hu) hr

/-! ## Runs to the first IDLE state -/

/-- The run of `n` ticks from `s`, without reset, reaches IDLE in `t` and not before. -/
structure RunsToIdle (n : Nat) (s t : State) : Prop where
  run : Runs n s t
  idle : t.st = .idle
  noReset : ∀ k < n, (s.inputAt k).rstN = true
  busy : ∀ k u, k < n → Runs k s u → u.st ≠ .idle

section
variable {s t u : State} {m n k : Nat}

/-- The rest of the run from any tick of it. -/
theorem RunsToIdle.drop (h : RunsToIdle (k + m) s t) (hu : Runs k s u) : RunsToIdle m u t where
  run := by
    obtain ⟨v, hv, hrest⟩ := runs_add.mp h.run
    rwa [runs_unique hu hv]
  idle := h.idle
  noReset := fun j hj => by
    rw [runs_inputAt hu]
    exact h.noReset (k + j) (Nat.add_lt_add_left hj k)
  busy := fun j v hj hv => h.busy (k + j) v (Nat.add_lt_add_left hj k) (runs_add.mpr ⟨u, hu, hv⟩)

/-- A busy engine takes the FSM's tick, and the run goes on from there. -/
theorem RunsToIdle.tick (h : RunsToIdle n s t) (hs : s.st ≠ .idle) :
    ∃ m, n = m + 1 ∧ Runs 1 s s.fsmTick.advance ∧ RunsToIdle m s.fsmTick.advance t := by
  cases n with
  | zero => exact absurd (runs_zero.mp h.run ▸ h.idle) hs
  | succ m =>
    obtain ⟨v, hstep, -⟩ := runs_succ.mp h.run
    have hr : s.input.rstN = true := h.noReset 0 m.succ_pos
    have hv : v = s.fsmTick.advance := by rw [eq_fsmStep_of_step hstep, State.fsmStep, if_pos hr]
    have hone : Runs 1 s s.fsmTick.advance := runs_one.mpr (hv ▸ hstep)
    exact ⟨m, rfl, hone, (Nat.add_comm m 1 ▸ h).drop hone⟩

/-- A run that starts in IDLE has ended. -/
theorem RunsToIdle.of_idle (h : RunsToIdle n s t) (hs : s.st = .idle) : n = 0 ∧ t = s := by
  have hn : n = 0 := Nat.eq_zero_of_not_pos fun hpos => h.busy 0 s hpos (runs_zero.mpr rfl) hs
  subst hn
  exact ⟨rfl, runs_zero.mp h.run⟩

/-! ## The cycle after the acquisition -/

theorem FsmState.ne_idle_of_finishing {st : FsmState} (h : st.finishing = true) : st ≠ .idle := by
  rintro rfl; cases h

/-- After the acquisition the state fixes the tick of the response, and the response has the cycle's status. -/
theorem RunsToIdle.of_finishing (h : RunsToIdle n s t) (hi : Inv s) (hs : s.st.finishing = true) :
    n = s.ticksToIdle ∧ t.rspStatus = s.finStatus := by
  induction n generalizing s with
  | zero => exact absurd (runs_zero.mp h.run ▸ h.idle) (FsmState.ne_idle_of_finishing hs)
  | succ n ih =>
    obtain ⟨m, hm, hone, hrest⟩ := h.tick (FsmState.ne_idle_of_finishing hs)
    obtain rfl := Nat.succ_injective hm
    rcases nearer_or_fin hs with hnear | hfin
    · obtain ⟨hticks, hstatus⟩ := ih hrest (hi.of_runs hone) hnear.finishing
      exact ⟨(congrArg (· + 1) hticks).trans hnear.ticks.symm, hstatus.trans hnear.finStatus⟩
    · obtain ⟨hidle, -, hstatus, -⟩ := fsmTick_fin_responds hfin hi.finStatusOk.1
      obtain ⟨rfl, rfl⟩ := hrest.of_idle hidle
      exact ⟨(ticksToIdle_fin hfin).symm, hstatus⟩

/-- After the acquisition PHI2 is high as long as the ticks left are those of HIGH, SAMP and FIN. -/
theorem phi2R_iff_ticksToIdle (hi : Inv s) (hs : s.st.finishing = true) :
    s.phi2R = true ↔ s.conf.tSample + 2 < s.ticksToIdle ∧ s.ticksToIdle ≤ s.conf.tSample + 2 + s.conf.tHigh := by
  obtain ⟨-, -, -, -, -, hhigh, -⟩ := s.timing_pos
  have hcnt := hi.cntOk
  rw [hi.phi2High]
  cases h : s.st with
  | wait => simp only [ticksToIdle_wait h, reduceCtorEq, false_iff]; omega
  | high =>
    simp only [h, FsmState.cntBound] at hcnt
    simp only [ticksToIdle_high h, true_iff]
    omega
  | samp =>
    simp only [h, FsmState.cntBound] at hcnt
    simp only [ticksToIdle_samp h, reduceCtorEq, false_iff]
    omega
  | fin => simp only [ticksToIdle_fin h, reduceCtorEq, false_iff]; omega
  | idle | dispatch | gen | setup | clow | chigh | fine => rw [h] at hs; cases hs

/-! ## The acquisition -/

/-- The states in which a synchronized cycle acquires its phase: SETUP and the polling states. -/
def FsmState.acquiring (st : FsmState) : Prop := st = .setup ∨ st.polling = true

theorem FsmState.acquiring.ne_idle_high {st : FsmState} (h : st.acquiring) : st ≠ .idle ∧ st ≠ .high := by
  rcases h with rfl | h
  · exact ⟨nofun, nofun⟩
  · exact ⟨FsmState.ne_idle_of_polling h, FsmState.ne_high_of_polling h⟩

/-- A tick of the acquisition goes on with it, locks into WAIT, or aborts. -/
theorem fsmTick_acquiring (hs : s.st.acquiring) :
    s.fsmTick.st.acquiring ∨ s.fsmTick.st = .wait ∨
      (s.fsmTick.st = .fin ∧ s.fsmTick.finStatus = .noClockDetected) := by
  rcases hs with hs | hs
  · rw [State.fsmTick_setup hs]
    exact .inl (.inr rfl)
  · rcases State.fsmTick_polling_cases hs with ⟨-, e⟩ | ⟨-, -, e⟩ | ⟨-, -, -, -, e⟩ | ⟨-, -, -, e⟩ <;> rw [e]
    · exact .inl (.inr hs)
    · rcases FsmState.polling_cases hs with e | e | e <;>
        simp [e, FsmState.afterLock, FsmState.acquiring, FsmState.polling]
    · exact .inr (.inr ⟨rfl, rfl⟩)
    · exact .inl (.inr hs)

/-- A cycle that is still acquiring its phase will succeed, with all of HIGH, SAMP and FIN ahead of it, or report
NoClockDetected. -/
theorem RunsToIdle.of_acquiring (h : RunsToIdle n s t) (hi : Inv s) (hs : s.st.acquiring) :
    (t.rspStatus = .success ∧ s.conf.tSample + 2 + s.conf.tHigh < n) ∨ t.rspStatus = .noClockDetected := by
  induction n generalizing s with
  | zero => exact absurd (runs_zero.mp h.run ▸ h.idle) hs.ne_idle_high.1
  | succ n ih =>
    obtain ⟨m, hm, hone, hrest⟩ := h.tick hs.ne_idle_high.1
    obtain rfl := Nat.succ_injective hm
    have hi' := hi.of_runs hone
    have hconf : s.fsmTick.advance.conf = s.conf := congrArg Subtype.val (runs_cfg hone)
    rcases fsmTick_acquiring hs with hacq | hwait | ⟨hfin, hstatus⟩
    · refine (ih hrest hi' hacq).imp_left fun ⟨hsucc, hlt⟩ => ⟨hsucc, ?_⟩
      rw [hconf] at hlt
      exact Nat.lt_succ_of_lt hlt
    · have hwait : s.fsmTick.advance.st = .wait := hwait
      obtain ⟨hticks, hstatus⟩ := hrest.of_finishing hi' (by rw [hwait]; rfl)
      rw [ticksToIdle_wait hwait, hconf] at hticks
      exact .inl ⟨hstatus.trans (hi'.finStatusOk.2 (by rw [hwait]; rfl)), by omega⟩
    · have hfin : s.fsmTick.advance.st = .fin := hfin
      obtain ⟨-, hstatus'⟩ := hrest.of_finishing hi' (by rw [hfin]; rfl)
      exact .inr (hstatus'.trans hstatus)

/-! ## The pulse -/

/-- A tick of a synchronized cycle stays in it, or it is FIN's. -/
theorem fsmTick_inCycle (hs : s.st.acquiring ∨ s.st.finishing = true) :
    (s.fsmTick.st.acquiring ∨ s.fsmTick.st.finishing = true) ∨ s.fsmTick.st = .idle := by
  rcases hs with hacq | hfin
  · rcases fsmTick_acquiring hacq with hacq | hwait | ⟨hfin, -⟩
    · exact .inl (.inl hacq)
    · exact .inl (.inr (congrArg FsmState.finishing hwait))
    · exact .inl (.inr (congrArg FsmState.finishing hfin))
  · rcases nearer_or_fin hfin with hnear | hfin
    · exact .inl (.inr hnear.finishing)
    · rw [State.fsmTick_fin hfin]
      rcases s.clearValid.finTick_cases s.isWrite with ⟨-, e⟩ | ⟨-, e⟩ <;> rw [e] <;> exact .inr rfl

/-- Every tick of the run before its end is a tick of the cycle. -/
theorem RunsToIdle.inCycle (h : RunsToIdle n s t) (hs : s.st.acquiring ∨ s.st.finishing = true) (hk : k < n)
    (hu : Runs k s u) : u.st.acquiring ∨ u.st.finishing = true := by
  induction k generalizing s n with
  | zero => rwa [runs_zero.mp hu]
  | succ k ih =>
    obtain ⟨m, rfl, hone, hrest⟩ := h.tick (hs.elim (·.ne_idle_high.1) FsmState.ne_idle_of_finishing)
    obtain ⟨v, hv, hu⟩ := runs_succ.mp hu
    obtain rfl := runs_unique (runs_one.mpr hv) hone
    rcases fsmTick_inCycle hs with hs | hidle
    · exact ih hrest hs (Nat.lt_of_succ_lt_succ hk) hu
    · obtain ⟨rfl, -⟩ := hrest.of_idle hidle
      exact absurd (Nat.lt_of_succ_lt_succ hk) (Nat.not_lt_zero k)

/-! ## The pulse -/

/-- In a cycle that succeeds the ticks left tell whether PHI2 is high. -/
theorem RunsToIdle.phi2R_iff (h : RunsToIdle n s t) (hi : Inv s) (hs : s.st.acquiring ∨ s.st.finishing = true)
    (hsucc : t.rspStatus = .success) :
    s.phi2R = true ↔ s.conf.tSample + 2 < n ∧ n ≤ s.conf.tSample + 2 + s.conf.tHigh := by
  rcases hs with hacq | hfin
  · rcases h.of_acquiring hi hacq with ⟨-, hlt⟩ | hfail
    · simp only [hi.phi2R_eq_false hacq.ne_idle_high.2, Bool.false_eq_true, false_iff]
      omega
    · exact absurd (hsucc.symm.trans hfail) nofun
  · obtain ⟨rfl, -⟩ := h.of_finishing hi hfin
    exact phi2R_iff_ticksToIdle hi hfin

/-- A cycle that reports NoClockDetected is at no tick in HIGH, where the status is still Success (R41). -/
theorem RunsToIdle.phi2R_low (h : RunsToIdle n s t) (hi : Inv s) (hfail : t.rspStatus = .noClockDetected) :
    s.phi2R = false := by
  refine hi.phi2R_eq_false fun hhigh => ?_
  obtain ⟨-, hstatus⟩ := h.of_finishing hi (by rw [hhigh]; rfl)
  have hsucc : s.finStatus = .success := hi.finStatusOk.2 (by rw [hhigh]; rfl)
  exact absurd (hfail.symm.trans (hstatus.trans hsucc)) nofun

end

/-- Settles O55: each tick of the cycle is told by the ticks left to the response, of which the pulse takes T_HIGH. -/
theorem onePulsePerSuccessfulCycle : Obligations.OnePulsePerSuccessfulCycle := by
  unfold Obligations.OnePulsePerSuccessfulCycle
  intro s t n hi hs hrun hidle hr hbusy
  have h : RunsToIdle n s t := ⟨hrun, hidle, hr, hbusy⟩
  have hacq : s.st.acquiring := .inl hs
  have hends := h.of_acquiring hi hacq
  have hdrop : ∀ {k u}, k ≤ n → Runs k s u → RunsToIdle (n - k) u t := fun hk hu =>
    ((Nat.add_sub_of_le hk).symm ▸ h).drop hu
  refine ⟨hends.imp_left And.left, fun hsucc => ?_, fun hfail k u hk hu =>
    (hdrop hk hu).phi2R_low (hi.of_runs hu) hfail⟩
  obtain ⟨-, hlen⟩ := hends.resolve_right fun hfail => absurd (hsucc.symm.trans hfail) nofun
  refine ⟨n - (s.conf.tSample + 2 + s.conf.tHigh), by omega, by omega, fun k u hk hu => ?_⟩
  have hconf : u.conf = s.conf := congrArg Subtype.val (runs_cfg hu)
  rcases Nat.lt_or_eq_of_le hk with hlt | rfl
  · rw [(hdrop hk hu).phi2R_iff (hi.of_runs hu) (h.inCycle (.inl hacq) hlt hu) hsucc, hconf]
    omega
  · obtain rfl := runs_unique hrun hu
    rw [(hi.of_runs hu).phi2R_eq_false (by simp [hidle])]
    simp only [Bool.false_eq_true, false_iff]
    omega

end Sys2Proof.Machine
end

section
/-!
PROOFS. The encodings: a word is its fields and back, for commands (O2), table entries and bit-map entries (O3), so
encoding then decoding gives each instruction back (O1); the assembler on top of them (O4, O5), and the fields of the
response word (O6). A field of a concatenation is found by dropping the parts below it; a word is put together again by
joining neighbouring fields.
-/

namespace Sys2Proof

/-! ## Table entries (R101, R102) -/

/-- The word of an entry shows its four fields (R102). -/
@[simp] theorem Entry.ofWord_toWord (e : Entry) : Entry.ofWord e.toWord = e := by
  have hstart : e.toWord.extractLsb' 0 16 = e.start := BitVec.extractLsb'_append_eq_right
  have hlength : e.toWord.extractLsb' 16 16 = e.length :=
    (BitVec.extractLsb'_append_eq_of_le (le_refl 16)).trans BitVec.extractLsb'_append_eq_right
  simp [Entry.ofWord, hstart, hlength, rs_entryWord, ws_entryWord]

/-- The four fields of an ENTRY word make the word (R102). -/
theorem entryWord_eq_fields (w : EntryWord) :
    w.extractLsb' 34 2 ++ w.extractLsb' 32 2 ++ w.extractLsb' 16 16 ++ w.extractLsb' 0 16 = w := by
  rw [BitVec.extractLsb'_append_extractLsb'_eq_extractLsb' (by rfl),
    BitVec.extractLsb'_append_extractLsb'_eq_extractLsb' (by rfl),
    BitVec.extractLsb'_append_extractLsb'_eq_extractLsb' (by rfl), BitVec.extractLsb'_eq_self]

theorem Entry.toWord_ofWord (w : EntryWord) : (Entry.ofWord w).toWord = w := by
  simpa only [Entry.toWord, Entry.ofWord, Strat.toBits_ofBits] using entryWord_eq_fields w

/-! ## Bit-map entries (R107) -/

/-- The 64 words are checked one by one (R107). -/
theorem MapEntry.toWord_ofWord : ∀ w : MapWord, (MapEntry.ofWord w).toWord = w := by decide

/-- The word of a bit-map entry shows its three fields (R107). -/
theorem MapEntry.ofWord_toWord (m : MapEntry) : MapEntry.ofWord m.toWord = m := by
  have hport : m.toWord.extractLsb' 0 2 = m.port := BitVec.extractLsb'_append_eq_right
  have hbit : m.toWord.extractLsb' 2 3 = m.bit :=
    (BitVec.extractLsb'_append_eq_of_le (le_refl 2)).trans BitVec.extractLsb'_append_eq_right
  have hinv : m.toWord.getLsbD 5 = m.inv := by
    simp only [MapEntry.toWord, BitVec.getLsbD_append]
    simp
  simp only [MapEntry.ofWord, hport, hbit, hinv]

/-- Settles O3: the fields make the word, and the word shows the fields, for both formats. -/
theorem tableAndMapWordsRoundTrip : Obligations.TableAndMapWordsRoundTrip :=
  ⟨Entry.toWord_ofWord, Entry.ofWord_toWord, MapEntry.toWord_ofWord, MapEntry.ofWord_toWord⟩

/-! ## The instructions (R109) -/

theorem decode_readEntry_toWord (e : Entry) : decode (.readEntry e.toWord) = e.instr false := by simp [decode]

theorem decode_writeEntry_toWord (e : Entry) : decode (.writeEntry e.toWord) = e.instr true := by simp [decode]

/-- Settles O1: a command by the fields of its word, a strategy row by the entry its word stands for, of which the
access direction selects the row. -/
theorem decodeEncodeAgree : Obligations.DecodeEncodeAgree := by
  unfold Obligations.DecodeEncodeAgree
  intro i
  cases i with
  | rd a d => exact Machine.decodeCmd_encodeCmd_rd a d
  | wr a d => exact Machine.decodeCmd_encodeCmd_wr a d
  | lk a d => exact Machine.decodeCmd_encodeCmd_lk a d
  | rsDefault s l ws | rsSyncPhi0 s l ws | rsSyncPhi0Skip s l ws => exact decode_readEntry_toWord _
  | wsDefault s l rs | wsSyncPhi0 s l rs | wsSyncPhi0Skip s l rs => exact decode_writeEntry_toWord _

/-! ## Command words (R96 to R98, R110) -/

/-- The four fields of a command word make the word (R96). -/
theorem cmdWord_eq_fields (w : CmdWord) : cmdAddrIn w ++ cmdWdata w ++ cmdRsvd w ++ cmdOp w = w := by
  rw [cmdAddrIn, cmdWdata, cmdRsvd, cmdOp, BitVec.extractLsb'_append_extractLsb'_eq_extractLsb' (by rfl),
    BitVec.extractLsb'_append_extractLsb'_eq_extractLsb' (by rfl),
    BitVec.extractLsb'_append_extractLsb'_eq_extractLsb' (by rfl), BitVec.extractLsb'_eq_self]

/-- A word without a reserved bit is the command word of its other fields (R96, R98). -/
theorem encodeCmd_fields {w : CmdWord} (h : cmdRsvd w = 0#6) : encodeCmd (cmdOp w) (cmdAddrIn w) (cmdWdata w) = w := by
  have hw := cmdWord_eq_fields w
  rwa [h] at hw

/-- CMD[7:0] is RSVD above OP (R96). -/
theorem low_eq_fields (w : CmdWord) : w.extractLsb' 0 8 = cmdRsvd w ++ cmdOp w :=
  (BitVec.extractLsb'_append_extractLsb'_eq_extractLsb' (start₂ := 2) (start₁ := 0) (len₁ := 2) rfl).symm

/-- CMD[7:0] is 3 or more exactly when a reserved bit is set or OP = 11 (R97, R98). -/
theorem three_le_low_iff (w : CmdWord) : 3 ≤ (w.extractLsb' 0 8).toNat ↔ cmdRsvd w ≠ 0#6 ∨ cmdOp w = 0b11#2 := by
  have hbits : ∀ (r : BitVec 6) (o : BitVec 2), 3 ≤ (r ++ o).toNat ↔ r ≠ 0#6 ∨ o = 0b11#2 := by decide
  rw [low_eq_fields]
  exact hbits _ _

/-- Settles O2: by the four answers of the decoder. -/
theorem commandWordsDecodeExactly : Obligations.CommandWordsDecodeExactly := by
  unfold Obligations.CommandWordsDecodeExactly
  intro w
  rw [three_le_low_iff]
  rcases Machine.decodeCmd_cases w with ⟨hr, ho, e⟩ | ⟨hr, ho, e⟩ | ⟨hr, ho, e⟩ | ⟨hres, r, e⟩
  · have hw : encodeCmd 0b00#2 (cmdAddrIn w) (cmdWdata w) = w := ho ▸ encodeCmd_fields hr
    simp [e, encode, hw, hr, ho]
  · have hw : encodeCmd 0b01#2 (cmdAddrIn w) (cmdWdata w) = w := ho ▸ encodeCmd_fields hr
    simp [e, encode, hw, hr, ho]
  · have hw : encodeCmd 0b10#2 (cmdAddrIn w) (cmdWdata w) = w := ho ▸ encodeCmd_fields hr
    simp [e, encode, hw, hr, ho]
  · exact ⟨fun i hi => by simp [e] at hi, iff_of_true ⟨r, e⟩ hres⟩

/-! ## The assembler (R112, R113) -/

theorem assemble_of_wellFormed {a : Asm} (h : a.wellFormed = true) : assemble a = a.expand.word := if_pos h

theorem assemble_of_not_wellFormed {a : Asm} (h : ¬ a.wellFormed = true) : assemble a = none := if_neg h

@[simp] theorem Asm.wellFormed_rd (a : Nat) : (Asm.rd a).wellFormed = true ↔ a < 2 ^ 32 := decide_eq_true_iff

@[simp] theorem Asm.wellFormed_lk (a : Nat) : (Asm.lk a).wellFormed = true ↔ a < 2 ^ 32 := decide_eq_true_iff

@[simp] theorem Asm.wellFormed_wr (a d : Nat) : (Asm.wr a d).wellFormed = true ↔ a < 2 ^ 32 ∧ d < 2 ^ 8 := by
  simp only [Asm.wellFormed, Bool.and_eq_true, decide_eq_true_eq]

@[simp] theorem Asm.wellFormed_entry (b l : Nat) (rs ws : Strat) :
    (Asm.entry b l rs ws).wellFormed = true ↔ b < 2 ^ 16 ∧ l < 2 ^ 16 := by
  simp only [Asm.wellFormed, Bool.and_eq_true, decide_eq_true_eq]

/-- Settles O5: the operands are well-formed exactly in their ranges, and the word assembled from them shows them. -/
theorem assemblerTakesExactlyTheLegalOperands : Obligations.AssemblerTakesExactlyTheLegalOperands := by
  unfold Obligations.AssemblerTakesExactlyTheLegalOperands
  refine ⟨fun a ha => ?_, fun a ha => ?_, fun a d ha hd => ?_, fun a ha => ?_, fun a d h => ?_, fun b l rs ws hb hl => ?_,
    fun b l rs ws h => ?_, rfl⟩
  · exact ⟨_, assemble_of_wellFormed ((Asm.wellFormed_rd a).mpr ha), Machine.decodeCmd_encodeCmd_rd _ _⟩
  · exact ⟨_, assemble_of_wellFormed ((Asm.wellFormed_lk a).mpr ha), Machine.decodeCmd_encodeCmd_lk _ _⟩
  · exact ⟨_, assemble_of_wellFormed ((Asm.wellFormed_wr a d).mpr ⟨ha, by omega⟩), Machine.decodeCmd_encodeCmd_wr _ _⟩
  · exact ⟨assemble_of_not_wellFormed (by simpa using ha), assemble_of_not_wellFormed (by simpa using ha)⟩
  · exact assemble_of_not_wellFormed (by rw [Asm.wellFormed_wr]; omega)
  · exact ⟨_, assemble_of_wellFormed ((Asm.wellFormed_entry b l rs ws).mpr ⟨hb, hl⟩), Entry.ofWord_toWord _⟩
  · exact assemble_of_not_wellFormed (by rw [Asm.wellFormed_entry]; omega)

/-- Settles O4: each example word is the command word of its operands, which the decoder reads back; a
pseudo-instruction and its expansion take the same operands. -/
theorem exampleWordsOfTheSpec : Obligations.ExampleWordsOfTheSpec :=
  ⟨assemble_of_wellFormed ((Asm.wellFormed_rd _).mpr (by decide)),
    assemble_of_wellFormed ((Asm.wellFormed_wr _ _).mpr (by decide)),
    assemble_of_wellFormed ((Asm.wellFormed_lk _).mpr (by decide)),
    Machine.decodeCmd_encodeCmd_rd 0x500#32 0x00#8, Machine.decodeCmd_encodeCmd_wr 0x500#32 0xA5#8,
    Machine.decodeCmd_encodeCmd_lk 0x10500#32 0x00#8, fun _ => rfl, fun _ _ => rfl, fun _ => rfl⟩

/-! ## The response word (R104, R105) -/

/-- Bits 23:8 of the response word are the fields above bits 7:0 (R104). -/
theorem extractLsb'_rspWord_above (s : Machine.State) (i n : Nat) :
    s.rspWord.extractLsb' (i + 8) n =
      (0#4 ++ s.rspWs.toBits ++ s.rspRs.toBits ++ s.rspRdata).extractLsb' i n :=
  (BitVec.extractLsb'_append_eq_of_le (by omega)).trans <|
    (BitVec.extractLsb'_append_eq_of_le (by omega)).trans <| BitVec.extractLsb'_append_eq_of_le (by omega)

/-- Settles O6: each field of the response word is found by dropping the fields below it. -/
theorem responseWordFields : Obligations.ResponseWordFields := by
  unfold Obligations.ResponseWordFields
  intro s
  have hstatus : s.rspWord.extractLsb' 0 2 = s.rspStatus.toBits := BitVec.extractLsb'_append_eq_right
  have hrdv : s.rspWord.getLsbD 2 = s.rspRdv := by
    simp only [Machine.State.rspWord, BitVec.getLsbD_append]
    simp
  have hlow : s.rspWord.extractLsb' 3 5 = 0#5 :=
    (BitVec.extractLsb'_append_eq_of_le (by decide)).trans <|
      (BitVec.extractLsb'_append_eq_of_le (by decide)).trans BitVec.extractLsb'_append_eq_right
  have hrdata : s.rspWord.extractLsb' 8 8 = s.rspRdata :=
    (extractLsb'_rspWord_above s 0 8).trans BitVec.extractLsb'_append_eq_right
  have hrs : s.rspWord.extractLsb' 16 2 = s.rspRs.toBits :=
    (extractLsb'_rspWord_above s 8 2).trans <|
      (BitVec.extractLsb'_append_eq_of_le (by decide)).trans BitVec.extractLsb'_append_eq_right
  have hws : s.rspWord.extractLsb' 18 2 = s.rspWs.toBits :=
    (extractLsb'_rspWord_above s 10 2).trans <|
      (BitVec.extractLsb'_append_eq_of_le (by decide)).trans <|
        (BitVec.extractLsb'_append_eq_of_le (by decide)).trans BitVec.extractLsb'_append_eq_right
  have hhigh : s.rspWord.extractLsb' 20 4 = 0#4 :=
    (extractLsb'_rspWord_above s 12 4).trans <|
      (BitVec.extractLsb'_append_eq_of_le (by decide)).trans <|
        (BitVec.extractLsb'_append_eq_of_le (by decide)).trans BitVec.extractLsb'_append_eq_left
  exact ⟨hstatus, hrdv, hlow, hrdata, hrs, hws, hhigh, hstatus ▸ s.rspStatus.toBits_ne_three⟩

end Sys2Proof
end

section
/-!
PROOFS. A command that ends in NotImplemented, from its acceptance to its response (O26), and what a step reads of the
command word offered (O31).
-/

namespace Sys2Proof.Machine

/-! ## The run of a command that is turned away (R206 to R208, R266) -/

section
variable {s t : State} {n : Nat} {a : HostAddr} {d : Byte}

/-- A word that decodes to nothing has a reserved bit set or OP = 11 (R97, R98). -/
theorem fields_of_decodeCmd_error {w : CmdWord} {r : Reserved} (h : decodeCmd w = .error r) :
    cmdRsvd w ≠ 0#6 ∨ cmdOp w = 0b11#2 := by
  rcases decodeCmd_cases w with ⟨-, -, e⟩ | ⟨-, -, e⟩ | ⟨-, -, e⟩ | ⟨hres, -⟩
  · cases e.symm.trans h
  · cases e.symm.trans h
  · cases e.symm.trans h
  · exact hres

/-- The word that decodes to RD has no reserved bit, OP = 00 and RD's address (R96, R97). -/
theorem fields_of_decodeCmd_rd {w : CmdWord} (h : decodeCmd w = .ok (.rd a d)) :
    cmdRsvd w = 0#6 ∧ cmdOp w = 0b00#2 ∧ cmdAddrIn w = a := by
  rcases decodeCmd_cases w with ⟨hr, ho, e⟩ | ⟨-, -, e⟩ | ⟨-, -, e⟩ | ⟨-, r, e⟩ <;> cases e.symm.trans h
  exact ⟨hr, ho, rfl⟩

/-- The word that decodes to WR has no reserved bit, OP = 01 and WR's address (R96, R97). -/
theorem fields_of_decodeCmd_wr {w : CmdWord} (h : decodeCmd w = .ok (.wr a d)) :
    cmdRsvd w = 0#6 ∧ cmdOp w = 0b01#2 ∧ cmdAddrIn w = a := by
  rcases decodeCmd_cases w with ⟨-, -, e⟩ | ⟨hr, ho, e⟩ | ⟨-, -, e⟩ | ⟨-, r, e⟩ <;> cases e.symm.trans h
  exact ⟨hr, ho, rfl⟩

/-- The tick raises NotImplemented, on bus registers that are still those of `s`. -/
def TurnsAway (s t : State) : Prop := ∃ u : State, t.fsmTick = u.raiseNotImplemented ∧ u.busRegs = s.busRegs

/-- The last DISPATCH tick of a reserved word turns it away (R208). -/
theorem Dispatching.turnsAway_reserved (h : Dispatching s n t) (hc : t.cnt = 0) {r : Reserved}
    (he : decodeCmd s.input.cmd = .error r) : TurnsAway s t := by
  have hres : t.rsvdNz = true ∨ t.op = 0b11#2 := by
    simpa [h.rsvdNz, h.op] using fields_of_decodeCmd_error he
  exact ⟨t.clearValid, (State.fsmTick_dispatch_reserved h.st hres).trans (State.whenDone_of_zero (s := t.clearValid) _ hc),
    h.busRegs⟩

/-- A strategy that the mux turns away: the reserved code, or a synchronized one where the build has no such cycle
(R206, R207). -/
theorem State.route_turned_away {k : Strat} (hk : k = .reserved ∨ (k ≠ .default ∧ s.conf.syncSupported = false)) :
    s.route k = State.raiseNotImplemented { s with strat := k } := by
  rcases s.route_cases k with ⟨rfl, -⟩ | ⟨hsync, hsupp, -⟩ | ⟨-, e⟩
  · simp at hk
  · rcases hk with rfl | ⟨-, hunsupp⟩
    · simp at hsync
    · exact absurd (hsupp.symm.trans hunsupp) nofun
  · exact e

/-- The last DISPATCH tick of an access turns it away by the strategy it selects. -/
theorem Dispatching.turnsAway_access (h : Dispatching s n t) (hc : t.cnt = 0) (hr : t.rsvdNz = false)
    (ho : t.op = 0b00#2 ∨ t.op = 0b01#2) {k : Strat} (hsel : t.selected t.isWrite = k)
    (hk : k = .reserved ∨ (k ≠ .default ∧ s.conf.syncSupported = false)) : TurnsAway s t := by
  rw [← h.conf_eq, ← hsel] at hk
  exact ⟨_, (State.fsmTick_dispatch_access h.st hr ho).trans <|
    (State.whenDone_of_zero (s := t.clearValid) _ hc).trans (State.route_turned_away (s := t.clearValid) hk), h.busRegs⟩

/-- The last DISPATCH tick of RD, by the read code of its address. -/
theorem Dispatching.turnsAway_rd (h : Dispatching s n t) (hc : t.cnt = 0) (hrd : decodeCmd s.input.cmd = .ok (.rd a d))
    {k : Strat} (hsel : k = (lookup s.conf (a16 a)).1)
    (hk : k = .reserved ∨ (k ≠ .default ∧ s.conf.syncSupported = false)) : TurnsAway s t := by
  obtain ⟨hrsvd, hop, haddr⟩ := fields_of_decodeCmd_rd hrd
  have ho : t.op = 0b00#2 := h.op.trans hop
  refine h.turnsAway_access hc (by simp [h.rsvdNz, hrsvd]) (.inl ho) ?_ hk
  rw [isWrite_of_op_zero ho, State.selected, if_neg nofun, h.conf_eq, h.addr, haddr, hsel]

/-- The last DISPATCH tick of WR, by the write code of its address. -/
theorem Dispatching.turnsAway_wr (h : Dispatching s n t) (hc : t.cnt = 0) (hwr : decodeCmd s.input.cmd = .ok (.wr a d))
    {k : Strat} (hsel : k = (lookup s.conf (a16 a)).2)
    (hk : k = .reserved ∨ (k ≠ .default ∧ s.conf.syncSupported = false)) : TurnsAway s t := by
  obtain ⟨hrsvd, hop, haddr⟩ := fields_of_decodeCmd_wr hwr
  have ho : t.op = 0b01#2 := h.op.trans hop
  refine h.turnsAway_access hc (by simp [h.rsvdNz, hrsvd]) (.inr ho) ?_ hk
  rw [isWrite_of_op_one ho, State.selected, if_pos rfl, h.conf_eq, h.addr, haddr, hsel]

/-- The response word of NotImplemented (R104, R229). -/
theorem rspWord_raiseNotImplemented (u : State) : u.raiseNotImplemented.rspWord = 0x000001#24 := by
  have hword : 0#4 ++ Strat.default.toBits ++ Strat.default.toBits ++ 0x00#8 ++ 0#5 ++ BitVec.ofBool false ++
      Status.notImplemented.toBits = 0x000001#24 := by decide
  exact hword

/-- A command that is turned away gets the response 0x000001 (R104, R229). -/
theorem Dispatching.responds_notImplemented (h : Dispatching s n t) (hq : t.quiet 1) (ht : TurnsAway s t) :
    ∃ v, Runs (n + 1) s v ∧ v.st = .idle ∧ v.rspValid = true ∧ v.rspWord = 0x000001#24 ∧ v.busRegs = s.busRegs := by
  obtain ⟨u, htick, hbus⟩ := ht
  have hrun := runs_snoc.mpr ⟨t, h.run, step_quiet hq⟩
  rw [htick] at hrun
  exact ⟨_, hrun, rfl, rfl, rspWord_raiseNotImplemented u, hbus⟩

end

/-- Settles O26: T_DISPATCH ticks of DISPATCH, the last of which turns the command away. -/
theorem notImplementedRunResponds : Obligations.NotImplementedRunResponds := by
  unfold Obligations.NotImplementedRunResponds
  intro s hs hv hq hcmd
  have hq' : s.quiet s.conf.tDispatch := quiet_le hq (Nat.le_succ _)
  obtain ⟨u, hu, hc⟩ := dispatching_last hs hv hq'
  have hturned : TurnsAway s u := by
    rcases hcmd with ⟨r, he⟩ | ⟨a, d, k, ⟨hrd, hsel⟩ | ⟨hwr, hsel⟩, hk⟩
    · exact hu.turnsAway_reserved hc he
    · exact hu.turnsAway_rd hc hrd hsel hk
    · exact hu.turnsAway_wr hc hwr hsel hk
  obtain ⟨v, hrun, hidle, hvalid, hword, hbus⟩ := hu.responds_notImplemented (quiet_drop hq hu.run) hturned
  refine ⟨⟨v, hrun, hidle, hvalid, hword⟩, fun k t hk ht => ?_⟩
  rcases Nat.le_succ_iff.mp hk with hle | rfl
  · rcases dispatching_of_runs hs hv hq' hle ht with ⟨-, rfl⟩ | h
    · exact ⟨congrArg FsmState.inhibits hs, rfl⟩
    · exact pins_outside_cycles hs (.inr h.st) h.busRegs
  · obtain rfl := runs_unique hrun ht
    exact pins_outside_cycles hs (.inl hidle) hbus

/-! ## What a step reads of CMD (R99, R100, R200) -/

/-- The step does not depend on CMD, or it latches CMD's fields and does nothing else with it. -/
theorem step_withCmd_cases (s : State) :
    (∃ o, ∀ w, step (s.withInput { s.input with cmd := w }) = o) ∨
    (∀ w, step (s.withInput { s.input with cmd := w }) = .next (State.advance
      (s.clearValid.latch (cmdOp w) (decide (cmdRsvd w ≠ 0#6)) (a16 (cmdAddrIn w)) (cmdWdata w)))) := by
  by_cases ha : s.st = .idle ∧ s.input.rstN = true ∧ s.input.cmdValid = true
  · obtain ⟨hs, hr, hv⟩ := ha
    cases hd : s.input.genDone with
    | true =>
      refine .inl ⟨.refused .genDoneOutsideGen, fun w => step_refused hr ?_⟩
      simp [State.dutyBroken, hd, hs]
    | false =>
      refine .inr fun w => ?_
      have hstep := step_eq_fsmTick (s := s.withInput { s.input with cmd := w }) hr (dutyBroken_of_silent hd)
      rwa [State.fsmTick_idle_accept (s := s.withInput { s.input with cmd := w }) hs hv] at hstep
  · exact .inl ⟨step (s.withInput s.input), fun w => step_withInput rfl fun hr =>
      ⟨rfl, fun hs => ⟨rfl, fun hv => absurd ⟨hs, hr, hv⟩ ha⟩, fun _ => rfl, fun _ _ => rfl, fun _ _ _ => rfl⟩⟩

/-- The latched address is CMD[31:16] (R100). -/
theorem a16_cmdAddrIn (w : CmdWord) : a16 (cmdAddrIn w) = w.extractLsb' 16 16 :=
  (BitVec.setWidth_eq_extractLsb' (by decide)).symm.trans (BitVec.setWidth_extractLsb'_of_le (by decide))

/-- Words that agree on their low bits agree on every field there. -/
theorem field_eq_of_low_eq {v w : CmdWord} {m i n : Nat} (h : v.extractLsb' 0 m = w.extractLsb' 0 m) (hin : i + n ≤ m) :
    v.extractLsb' i n = w.extractLsb' i n := by
  rw [← BitVec.extractLsb'_extractLsb'_of_le hin, h, BitVec.extractLsb'_extractLsb'_of_le hin]

/-- OP and RSVD are read off CMD[7:0] (R96). -/
theorem op_rsvd_of_low_eq {v w : CmdWord} (h : v.extractLsb' 0 8 = w.extractLsb' 0 8) :
    cmdOp v = cmdOp w ∧ cmdRsvd v = cmdRsvd w :=
  ⟨field_eq_of_low_eq h (by decide), field_eq_of_low_eq h (by decide)⟩

/-- Settles O31: the latch keeps CMD[31:0], and CMD[15:8] goes to `wdata` alone. -/
theorem addressHighBitsAndIdleDataIgnored : Obligations.AddressHighBitsAndIdleDataIgnored := by
  unfold Obligations.AddressHighBitsAndIdleDataIgnored
  intro s v w
  rcases step_withCmd_cases s with ⟨o, hsame⟩ | hlatch
  · refine ⟨fun _ => (hsame v).trans (hsame w).symm, fun _ _ t u ht hu => ?_⟩
    rw [hsame] at ht hu
    rw [Host.Outcome.next.inj (hu.symm.trans ht)]
  · simp only [hlatch, a16_cmdAddrIn]
    constructor
    · intro h
      have hwdata : cmdWdata v = cmdWdata w := field_eq_of_low_eq h (by decide)
      have haddr : v.extractLsb' 16 16 = w.extractLsb' 16 16 := field_eq_of_low_eq h (by decide)
      obtain ⟨hop, hrsvd⟩ := op_rsvd_of_low_eq (field_eq_of_low_eq h (by decide))
      rw [hop, hrsvd, hwdata, haddr]
    · intro hlow haddr t u ht hu
      obtain ⟨hop, hrsvd⟩ := op_rsvd_of_low_eq hlow
      rw [← Host.Outcome.next.inj ht, ← Host.Outcome.next.inj hu, hop, hrsvd, haddr]
      rfl

end Sys2Proof.Machine
end

section
/-!
PROOFS. The board can present every byte (O46): a snapshot that shows each data bit at the one port bit it is mapped to,
and the background at every other.
-/

namespace Sys2Proof.Machine

/-! ## A well-formed bit map (R108) -/

theorem map_of_wellFormed {c : Config} (h : c.wellFormed = true) :
    c.mapPortsOk = true ∧ c.mapInjective = true := by
  simp only [Config.wellFormed, Bool.and_eq_true] at h
  obtain ⟨⟨⟨⟨hmap, -⟩, -⟩, -⟩, -⟩ := h
  exact hmap

/-- Every data bit is read from one of the ports (R108 (a)). -/
theorem port_lt_numPorts {c : Config} (h : c.mapPortsOk = true) (i : Fin 8) : c.bitmap[i].port.toNat < c.numPorts := by
  have hall := List.all_eq_true.mp h c.bitmap[i] (by simp)
  exact of_decide_eq_true hall

/-- No two data bits are read from the same port bit (R108 (b)). -/
theorem bitmap_injective {c : Config} (h : c.mapInjective = true) {i j : Fin 8}
    (hport : c.bitmap[i].port = c.bitmap[j].port) (hbit : c.bitmap[i].bit = c.bitmap[j].bit) : i = j := by
  have hpair := List.pairwise_iff_getElem.mp (of_decide_eq_true h)
  have hlt : ∀ {i j : Fin 8}, i < j →
      (c.bitmap[i].port, c.bitmap[i].bit) ≠ (c.bitmap[j].port, c.bitmap[j].bit) := fun {i j} hij =>
    hpair i j (by simp) (by simp) hij
  rcases lt_trichotomy i j with hij | hij | hij
  · exact absurd (Prod.ext hport hbit) (hlt hij)
  · exact hij
  · exact absurd (Prod.ext hport.symm hbit.symm) (hlt hij)

/-! ## The data bit behind a port bit -/

/-- The data bit that is read from bit `j` of port `k`, if any. -/
def mappedBit (c : Config) (k j : Nat) : Option (Fin 8) :=
  (List.finRange 8).find? fun i => decide (c.bitmap[i].port.toNat = k ∧ c.bitmap[i].bit.toNat = j)

theorem entry_of_mappedBit {c : Config} {k j : Nat} {i : Fin 8} (h : mappedBit c k j = some i) :
    c.bitmap[i].port.toNat = k ∧ c.bitmap[i].bit.toNat = j := by
  have hi := List.find?_some h
  exact of_decide_eq_true hi

/-- Each data bit is the one behind the port bit that its entry names. -/
theorem mappedBit_of_entry {c : Config} (h : c.mapInjective = true) (i : Fin 8) :
    mappedBit c c.bitmap[i].port.toNat c.bitmap[i].bit.toNat = some i := by
  cases hm : mappedBit c c.bitmap[i].port.toNat c.bitmap[i].bit.toNat with
  | none => exact absurd (List.find?_eq_none.mp hm i (List.mem_finRange i)) (by simp)
  | some j =>
    obtain ⟨hport, hbit⟩ := entry_of_mappedBit hm
    rw [bitmap_injective h (BitVec.eq_of_toNat_eq hport) (BitVec.eq_of_toNat_eq hbit)]

theorem mappedBit_of_unmapped {c : Config} {k j : Nat}
    (h : ∀ i : Fin 8, ¬ (c.bitmap[i].port.toNat = k ∧ c.bitmap[i].bit.toNat = j)) : mappedBit c k j = none :=
  List.find?_eq_none.mpr fun i _ => by simpa using h i

/-! ## The snapshot that presents a byte (R161) -/

/-- Bit `j` of port `k` when the board presents `d` over the background `bg`: the data bit behind it in its polarity,
and the background's bit where there is none. -/
def presentedBit (c : Config) (d : Byte) (bg : List Byte) (k j : Nat) : Bool :=
  match mappedBit c k j with
  | some i => xor (d.getLsbD i) c.bitmap[i].inv
  | none => (bg.getD k 0#8).getLsbD j

/-- The snapshot of the ports when the board presents `d` over the background `bg`. -/
def presented (c : Config) (d : Byte) (bg : List Byte) : List Byte :=
  (List.range c.numPorts).map fun k => BitVec.ofFnLE fun j : Fin 8 => presentedBit c d bg k j

theorem getLsbD_presented {c : Config} {k j : Nat} (hk : k < c.numPorts) (hj : j < 8) (d : Byte) (bg : List Byte) :
    ((presented c d bg).getD k 0#8).getLsbD j = presentedBit c d bg k j := by
  simp [presented, List.getD_eq_getElem?_getD, List.getElem?_range hk, BitVec.getElem_ofFnLE, hj]

/-- The snapshot shows each data bit in its polarity. -/
theorem portBit_presented {c : Config} (h : c.wellFormed = true) (d : Byte) (bg : List Byte) (i : Fin 8) :
    portBit (presented c d bg) c.bitmap[i] = xor (d.getLsbD i) c.bitmap[i].inv := by
  obtain ⟨hports, hinj⟩ := map_of_wellFormed h
  rw [portBit, getLsbD_presented (port_lt_numPorts hports i) c.bitmap[i].bit.isLt, presentedBit, mappedBit_of_entry hinj]

/-- A snapshot that shows each data bit in its polarity reassembles to the byte (R161). -/
theorem reassemble_eq_of_portBit {c : Config} {p : List Byte} {d : Byte}
    (h : ∀ i : Fin 8, portBit p c.bitmap[i] = xor (d.getLsbD i) c.bitmap[i].inv) : reassemble c p = d := by
  ext j hj
  have hbit : portBit p c.bitmap[j] = xor (d.getLsbD j) c.bitmap[j].inv := h ⟨j, hj⟩
  rw [reassemble_getElem _ _ _ hj, logicalBit_eq_xor, hbit, Bool.xor_assoc, Bool.xor_self, Bool.xor_false,
    BitVec.getLsbD_eq_getElem hj]

/-- Settles O46: by the snapshot `presented`, whose unmapped bits are the background's. -/
theorem boardCanPresentEveryByte : Obligations.BoardCanPresentEveryByte := by
  unfold Obligations.BoardCanPresentEveryByte
  intro c d bg _
  refine ⟨presented c.val d bg, by simp [presented], reassemble_eq_of_portBit (portBit_presented c.property d bg),
    fun k j hk hj hfree => ?_⟩
  rw [getLsbD_presented hk hj, presentedBit, mappedBit_of_unmapped hfree]

end Sys2Proof.Machine
end

section
/-!
PROOFS. The strategy table: the addresses an entry matches (O32), the end of the lookup at the first sentinel or at the
end of the table (O34), and LK, which reports the lookup (O21).
-/

namespace Sys2Proof.Machine

/-! ## The range of an entry (R121, R122) -/

section
variable {e : Entry}

theorem covers_of_length_zero (h : e.length = 0#16) (r : RangeArith) (a : Addr) : covers r e a = false :=
  Bool.eq_false_of_not_eq_true fun hcov => absurd h ((covers_iff r e a).mp hcov).1

/-- Of an entry that is no sentinel, EXACT17 covers the addresses up to the last of the range or of the address space:
the range never wraps to low addresses. -/
theorem lt_rangeEnd_exact17_iff (h : e.length ≠ 0#16) (a : Addr) :
    a.toNat < rangeEnd .exact17 e ↔ a.toNat ≤ min (e.start.toNat + e.length.toNat) 0x10000 - 1 := by
  have hpos : 0 < e.length.toNat := Nat.pos_of_ne_zero (BitVec.toNat_ne.mp h)
  have ha : a.toNat < 0x10000 := a.isLt
  simp only [rangeEnd]
  omega

theorem covers_exact17_iff (e : Entry) (a : Addr) :
    covers .exact17 e a = true ↔ e.length ≠ 0#16 ∧ e.start.toNat ≤ a.toNat ∧
      a.toNat ≤ min (e.start.toNat + e.length.toNat) 0x10000 - 1 :=
  (covers_iff .exact17 e a).trans <|
    and_congr_right fun hlen => and_congr_right fun _ => lt_rangeEnd_exact17_iff hlen a

/-- A sum that leaves the 16 bits ends, under WRAP16, no later than the range starts (R122). -/
theorem rangeEnd_wrap16_le_start (h : 0x10000 ≤ e.start.toNat + e.length.toNat) :
    rangeEnd .wrap16 e ≤ e.start.toNat := by
  have hstart : e.start.toNat < 0x10000 := e.start.isLt
  have hlen : e.length.toNat < 0x10000 := e.length.isLt
  simp only [rangeEnd]
  omega

theorem covers_wrap16_of_le (h : 0x10000 ≤ e.start.toNat + e.length.toNat) (a : Addr) : covers .wrap16 e a = false := by
  refine Bool.eq_false_of_not_eq_true fun hcov => ?_
  obtain ⟨-, hstart, hend⟩ := (covers_iff .wrap16 e a).mp hcov
  exact absurd (hend.trans_le (rangeEnd_wrap16_le_start h)) (Nat.not_lt.mpr hstart)

/-- A sum that stays in the 16 bits is the same under both arithmetics. -/
theorem rangeEnd_wrap16_eq_exact17 (h : e.start.toNat + e.length.toNat < 0x10000) :
    rangeEnd .wrap16 e = rangeEnd .exact17 e :=
  Nat.mod_eq_of_lt h

theorem covers_wrap16_eq_exact17 (h : e.start.toNat + e.length.toNat < 0x10000) (a : Addr) :
    covers .wrap16 e a = covers .exact17 e a := by
  rw [Bool.eq_iff_iff, covers_iff, covers_iff, rangeEnd_wrap16_eq_exact17 h]

end

/-- Settles O32: by where each arithmetic ends the entry's range. -/
theorem rangeMatchOfAnEntry : Obligations.RangeMatchOfAnEntry := by
  unfold Obligations.RangeMatchOfAnEntry
  exact fun e a => ⟨covers_exact17_iff e a, fun hle => covers_wrap16_of_le hle a,
    fun hlt => covers_wrap16_eq_exact17 hlt a, fun r hzero => covers_of_length_zero hzero r a⟩

/-! ## The end of the lookup (R124 to R126) -/

/-- Neither a sentinel nor what follows it serves an address (R124). -/
theorem servingIn_append_sentinel {z : Entry} (hz : z.length = 0#16) (r : RangeArith) (a : Addr)
    (pre post : List Entry) : servingIn r a (pre ++ z :: post) = servingIn r a pre := by
  induction pre with
  | nil => exact servingIn_sentinel post hz
  | cons e rest ih =>
    rw [List.cons_append]
    by_cases hzero : e.length = 0#16
    · rw [servingIn_sentinel _ hzero, servingIn_sentinel _ hzero]
    · cases hcov : covers r e a with
      | true => rw [servingIn_hit _ hcov, servingIn_hit _ hcov]
      | false => rw [servingIn_miss _ hzero hcov, servingIn_miss _ hzero hcov, ih]

/-- Entries that match nothing serve nothing, whether there is a sentinel among them or not. -/
theorem servingIn_eq_none_of_miss {r : RangeArith} {a : Addr} {l : List Entry}
    (h : ∀ x ∈ l, covers r x a = false) : servingIn r a l = none := by
  induction l with
  | nil => exact servingIn_nil r a
  | cons e rest ih =>
    obtain ⟨hmiss, hrest⟩ := List.forall_mem_cons.mp h
    by_cases hzero : e.length = 0#16
    · exact servingIn_sentinel rest hzero
    · rw [servingIn_miss rest hzero hmiss, ih hrest]

/-- The lookup depends on the configuration by the entry that serves the address, and by nothing else (R127). -/
theorem lookup_congr {c c' : Config} {a : Addr}
    (h : servingIn c.rangeArith a c.table = servingIn c'.rangeArith a c'.table) : lookup c a = lookup c' a := by
  simp only [lookup, servingEntry, h]

theorem lookup_of_servingIn_none {c : Config} {a : Addr} (h : servingIn c.rangeArith a c.table = none) :
    lookup c a = (.default, .default) := by
  rw [lookup, servingEntry, h]
  rfl

/-- Settles O34: what serves an address stands before the first sentinel. -/
theorem sentinelEndsTheLookup : Obligations.SentinelEndsTheLookup := by
  unfold Obligations.SentinelEndsTheLookup
  intro c a pre post z hz
  have hcut : ∀ post', servingIn c.rangeArith a (pre ++ z :: post') = servingIn c.rangeArith a pre :=
    servingIn_append_sentinel hz c.rangeArith a pre
  refine ⟨fun htable hmiss => ?atSentinel, fun post' htable => ?afterSentinel, fun htable => ?noSentinel,
    fun htable hmiss => ?atEnd⟩
  case atSentinel =>
    exact lookup_of_servingIn_none (by rw [htable, hcut, servingIn_eq_none_of_miss hmiss])
  case afterSentinel =>
    exact lookup_congr (by rw [htable, hcut, hcut])
  case noSentinel =>
    exact lookup_congr (by rw [htable, hcut])
  case atEnd =>
    exact lookup_of_servingIn_none (by rw [htable, servingIn_eq_none_of_miss hmiss])

/-! ## LK (R129, R201) -/

/-- The last DISPATCH tick of LK responds with the lookup of the latched address. -/
theorem State.dispatchLookup_of_zero {s : State} (h : s.cnt = 0) :
    s.dispatchLookup = s.finish .success none (lookup s.conf s.addr).1 (lookup s.conf s.addr).2 :=
  State.whenDone_of_zero _ h

/-- Settles O21: the DISPATCH tick of LK, at its last count. -/
theorem lkReportsTheStrategies : Obligations.LkReportsTheStrategies := by
  unfold Obligations.LkReportsTheStrategies
  intro s a d hs hc
  calc exec (.lk a d) s
    _ = .next s.clearValid.dispatchLookup := execLk_dispatch hs a d
    _ = .next (s.clearValid.finish .success none (lookup s.conf s.addr).1 (lookup s.conf s.addr).2) :=
      congrArg _ (State.dispatchLookup_of_zero (s := s.clearValid) hc)

end Sys2Proof.Machine
end

section
/-!
PROOFS. The generic cycle tick by tick: when a step is refused (O10), what GEN does with and without GEN_DONE (O35), and
the pins when the mux turns back (O38).
-/

namespace Sys2Proof.Machine

/-! ## The duties of the generic unit (R137; log 9) -/

/-- A duty is broken by GEN_DONE = 1 outside GEN, or at the first tick of a GEN span. -/
theorem dutyBroken_eq_some_iff (s : State) (r : Refusal) : s.dutyBroken = some r ↔ s.input.genDone = true ∧
    ((s.st ≠ .gen ∧ r = .genDoneOutsideGen) ∨ (s.st = .gen ∧ s.genFirst = true ∧ r = .genDoneAtFirstTick)) := by
  cases hd : s.input.genDone with
  | false => simp [dutyBroken_of_silent hd]
  | true =>
    by_cases hs : s.st = .gen
    · cases hf : s.genFirst with
      | false => simp [dutyBroken_of_done hs hf, hs]
      | true => simpa [State.dutyBroken, hd, hs, hf] using eq_comm
    · simpa [State.dutyBroken, hd, hs] using eq_comm

/-- A step is refused by a broken duty outside reset, and answers a next state otherwise. -/
theorem step_refused_or_next (s : State) :
    (∃ r, s.input.rstN = true ∧ s.dutyBroken = some r ∧ step s = .refused r) ∨
    ((s.input.rstN = true → s.dutyBroken = none) ∧ step s = .next s.fsmStep) := by
  by_cases h : s.input.rstN = true → s.dutyBroken = none
  · exact .inr ⟨h, stepIsTheFsmStep s h⟩
  · obtain ⟨hr, hd⟩ := Classical.not_imp.mp h
    obtain ⟨r, hd⟩ := Option.ne_none_iff_exists'.mp hd
    exact .inl ⟨r, hr, hd, step_refused hr hd⟩

theorem step_ne_fault (s : State) (f : Fault) : step s ≠ .fault f := by
  rcases step_refused_or_next s with ⟨r, -, -, e⟩ | ⟨-, e⟩ <;> rw [e] <;> nofun

theorem step_eq_refused_iff (s : State) (r : Refusal) :
    step s = .refused r ↔ s.input.rstN = true ∧ s.dutyBroken = some r := by
  refine ⟨fun h => ?_, fun ⟨hr, hd⟩ => step_refused hr hd⟩
  rcases step_refused_or_next s with ⟨r', hr, hd, e⟩ | ⟨-, e⟩
  · cases e.symm.trans h
    exact ⟨hr, hd⟩
  · cases e.symm.trans h

/-- Settles O10: only a broken duty refuses a step, and nothing faults. -/
theorem onlyABrokenDutyStops : Obligations.OnlyABrokenDutyStops := by
  unfold Obligations.OnlyABrokenDutyStops
  exact fun s => ⟨step_ne_fault s, fun r => by rw [step_eq_refused_iff, dutyBroken_eq_some_iff]⟩

/-! ## The GEN tick (R136, R139 to R141) -/

section
variable {s : State}

theorem State.genTick_waiting (hd : s.input.genDone = false) (w : Bool) : s.genTick w = { s with genFirst := false } := by
  rcases s.genTick_cases w with ⟨-, e⟩ | ⟨hd', -⟩
  · exact e
  · exact absurd (hd.symm.trans hd') nofun

theorem State.genTick_done (hd : s.input.genDone = true) (w : Bool) : s.genTick w =
    (State.genBus w { s with genFirst := false }).finish .success (if w then none else some s.input.genRdata)
      .default .default := by
  rcases s.genTick_cases w with ⟨hd', -⟩ | ⟨-, e⟩
  · exact absurd (hd.symm.trans hd') nofun
  · exact e

theorem exec_generic_waiting (hs : s.st = .gen) (hd : s.input.genDone = false) {i : Instr} {w : Bool}
    (hi : genericRow i = some w) : exec i s = .next { s.clearValid with genFirst := false } := by
  rw [exec_generic hi, genericCycle_gen hs, State.genTick_waiting (s := s.clearValid) hd]

theorem exec_generic_done (hs : s.st = .gen) (hd : s.input.genDone = true) {i : Instr} {w : Bool}
    (hi : genericRow i = some w) : exec i s =
      .next ((State.genBus w { s.clearValid with genFirst := false }).finish .success
        (if w then none else some s.input.genRdata) .default .default) := by
  rw [exec_generic hi, genericCycle_gen hs, State.genTick_done (s := s.clearValid) hd]
  rfl

/-- GEN without GEN_DONE keeps everything but RSP_VALID and the first-tick mark. -/
theorem State.fsmTick_gen_waiting (hs : s.st = .gen) (hd : s.input.genDone = false) :
    s.fsmTick = { s.clearValid with genFirst := false } := by
  rw [State.fsmTick_gen hs, State.genTick_waiting (s := s.clearValid) hd]

/-- GEN at GEN_DONE leaves the end state of R136 on the bus registers and responds. -/
theorem State.fsmTick_gen_done (hs : s.st = .gen) (hd : s.input.genDone = true) :
    s.fsmTick = (State.genBus s.isWrite { s.clearValid with genFirst := false }).finish .success
      (if s.isWrite then none else some s.input.genRdata) .default .default := by
  rw [State.fsmTick_gen hs, State.genTick_done (s := s.clearValid) hd]
  rfl

end

/-- Settles O35: the GEN tick of each generic row, with GEN_DONE and without. -/
theorem genericCycleCompletes : Obligations.GenericCycleCompletes := by
  unfold Obligations.GenericCycleCompletes
  exact fun s b l x hs =>
    ⟨fun hd => ⟨exec_generic_done (w := false) hs hd rfl, exec_generic_done (w := true) hs hd rfl⟩,
      fun hd => ⟨exec_generic_waiting hs hd rfl, exec_generic_waiting hs hd rfl⟩⟩

/-! ## The mux turns back (R138) -/

/-- The registers a generic cycle leaves behind are what the unit drives at its end, if it keeps its duty. -/
theorem busRegs_genBus_eq_genDrive {s : State} (hs : s.st = .gen) (hd : s.input.genDone = true) (hunit : s.unitEndDrive)
    (hread : s.isWrite = false → s.input.genPinDout = s.doutR) (hphi : s.phi2R = false) :
    (s.genBus s.isWrite).busRegs = Input.genDrive s.input := by
  obtain ⟨hrw, haddr, hdir, hwrite, hphi2⟩ := hunit hs hd
  have hdout : (if s.isWrite then s.wdata else s.doutR) = s.input.genPinDout := by
    cases hw : s.isWrite with
    | false => exact (hread hw).symm
    | true => exact (hwrite hw).symm
  simp [State.busRegs, Input.genDrive, hdout, hrw, haddr, hdir, hphi, hphi2]

/-- Settles O38: the tick leaves the registers of R136, which the pins showed already as the unit's drive. -/
theorem genHandsTheBusOver : Obligations.GenHandsTheBusOver := by
  unfold Obligations.GenHandsTheBusOver
  intro s t h hs hr hd hunit hread hstep
  have hphi : s.phi2R = false := h.phi2R_eq_false (by simp [hs])
  have ht : t = s.fsmTick.advance := by rw [eq_fsmStep_of_step hstep, State.fsmStep, if_pos hr]
  rw [State.fsmTick_gen_done hs hd] at ht
  subst ht
  refine ⟨rfl, ?_⟩
  calc _ = (s.genBus s.isWrite).busRegs := rfl
    _ = Input.genDrive s.input := busRegs_genBus_eq_genDrive hs hd hunit hread hphi
    _ = s.busPins := (if_pos hs).symm

end Sys2Proof.Machine
end

section
/-!
PROOFS. Runs through GEN: the engine waits for the generic unit as long as it is silent (O36), and the run of an access
that selects DEFAULT from its acceptance to its response (O37).
-/

namespace Sys2Proof.Machine

/-! ## Waiting in GEN (R143) -/

/-- What reads only registers and configuration does not tell such states apart. -/
theorem State.sameEngine.congr {α : Type} {s t : State} (h : s.sameEngine t) (f : State → α) :
    f { t with inputs := s.inputs, tick := s.tick, genFirst := s.genFirst } = f s :=
  congrArg f h

theorem State.sameEngine.trans {s t u : State} (h : s.sameEngine t) (h' : t.sameEngine u) : s.sameEngine u := by
  unfold State.sameEngine at h h' ⊢
  rw [← h, ← h']

/-- `t` is the state `n` ticks after the GEN state `s`, with every register as it was; once a tick has passed, the
first-tick mark is off. -/
structure GenWaiting (s : State) (n : Nat) (t : State) : Prop where
  run : Runs n s t
  engine : s.sameEngine t
  pastFirst : 0 < n → t.genFirst = false

section
variable {s t : State} {n : Nat}

theorem GenWaiting.st_eq (h : GenWaiting s n t) : t.st = s.st := h.engine.congr State.st

theorem GenWaiting.rspValid_eq (h : GenWaiting s n t) : t.rspValid = s.rspValid := h.engine.congr State.rspValid

theorem GenWaiting.next (h : GenWaiting s n t) (hs : s.st = .gen) (hv : s.rspValid = false) (hq : t.quiet 1) :
    ∃ u, GenWaiting s (n + 1) u := by
  have htick := State.fsmTick_gen_waiting (h.st_eq.trans hs) (hq 0 Nat.zero_lt_one).2
  have hrun := runs_snoc.mpr ⟨t, h.run, step_quiet hq⟩
  rw [htick] at hrun
  have hkeep : t.sameEngine (State.advance { t.clearValid with genFirst := false }) := by
    have hvalid : false = t.rspValid := (h.rspValid_eq.trans hv).symm
    simp only [State.sameEngine, State.advance, State.clearValid, hvalid]
  exact ⟨_, hrun, h.engine.trans hkeep, fun _ => rfl⟩

/-- While the unit is silent, GEN waits. -/
theorem genWaiting (hs : s.st = .gen) (hv : s.rspValid = false) (hq : s.quiet n) : ∃ t, GenWaiting s n t := by
  induction n with
  | zero => exact ⟨s, runs_zero.mpr rfl, rfl, fun h => absurd h (lt_irrefl 0)⟩
  | succ n ih =>
    obtain ⟨t, ht⟩ := ih (quiet_le hq n.le_succ)
    exact ht.next hs hv (quiet_drop hq ht.run)

end

/-- Settles O36: by induction on the ticks, each of which GEN waits out. -/
theorem genStaysUntilDone : Obligations.GenStaysUntilDone := by
  unfold Obligations.GenStaysUntilDone
  intro s n hs hv hq
  obtain ⟨t, ht⟩ := genWaiting hs hv hq
  have hst : t.st = .gen := ht.st_eq.trans hs
  exact ⟨t, ht.run, hst, decide_eq_true hst, ht.rspValid_eq.trans hv, ht.engine⟩

/-! ## The run of an access that selects DEFAULT (R139 to R142, R266) -/

/-- The response registers after `Respond` (R214). -/
theorem finish_advance_hasResponse (v : Status) (rd : Option Byte) (rs ws : Strat) (s : State) :
    (s.finish v rd rs ws).advance.hasResponse v rd rs ws := by
  refine ⟨rfl, rfl, ?_, ?_, rfl, rfl⟩
  · cases rd <;> rfl
  · rintro rfl; rfl

/-- RD (`w = false`) or WR, with its operands. -/
def accessInstr (w : Bool) (a : HostAddr) (d : Byte) : Instr := if w then .wr a d else .rd a d

/-- `t` is a GEN state `k` ticks after `s`, serving the access of direction `w` to `a` with the byte `d`; the bus
registers are still those of `s`. -/
structure GenServing (s : State) (w : Bool) (a : HostAddr) (d : Byte) (k : Nat) (t : State) : Prop where
  run : Runs k s t
  st : t.st = .gen
  isWrite : t.isWrite = w
  addr : t.addr = a16 a
  wdata : t.wdata = d
  busRegs : t.busRegs = s.busRegs

section
variable {s t : State} {w : Bool} {a : HostAddr} {d : Byte} {k : Nat}

/-- The word that decodes to an access has no reserved bit, the access's OP, address and data (R96, R97). -/
theorem fields_of_decodeCmd_access {x : CmdWord} (h : decodeCmd x = .ok (accessInstr w a d)) :
    cmdRsvd x = 0#6 ∧ cmdOp x = (if w then 0b01#2 else 0b00#2) ∧ cmdAddrIn x = a ∧ cmdWdata x = d := by
  rcases decodeCmd_cases x with ⟨hr, ho, e⟩ | ⟨hr, ho, e⟩ | ⟨-, -, e⟩ | ⟨-, r, e⟩ <;> cases w <;> cases e.symm.trans h
  · exact ⟨hr, ho, rfl, rfl⟩
  · exact ⟨hr, ho, rfl, rfl⟩

/-- DISPATCH keeps the data byte that IDLE latched (R36, R200). -/
theorem dispatching_wdata (hs : s.st = .idle) (hv : s.input.cmdValid = true) (hq : s.quiet s.conf.tDispatch)
    (hk : k < s.conf.tDispatch) (h : Dispatching s (k + 1) t) : t.wdata = cmdWdata s.input.cmd := by
  induction k generalizing t with
  | zero =>
    have hone := dispatching_one hs hv (quiet_le hq hk)
    rw [runs_unique h.run hone.run, State.fsmTick_idle_accept hs hv]
    rfl
  | succ k ih =>
    obtain ⟨u, hu, hstep⟩ := runs_snoc.mp h.run
    obtain ⟨hzero, -⟩ | hdisp := dispatching_of_runs hs hv hq hk.le hu
    · exact absurd hzero (Nat.succ_ne_zero k)
    · obtain ⟨v, hm, rfl⟩ := move_of_step (quiet_drop (quiet_le hq hk) hu 0 Nat.zero_lt_one).1 hstep
      obtain ⟨-, -, -, hwdata⟩ := hm.latch_eq (by simp [hdisp.st])
      exact hwdata.trans (ih (Nat.lt_of_succ_lt hk) hdisp)

/-- The last DISPATCH tick of an access that selects DEFAULT enters GEN (R204). -/
theorem Dispatching.enters_gen (h : Dispatching s k t) (hc : t.cnt = 0) (hq : t.quiet 1)
    (hcmd : decodeCmd s.input.cmd = .ok (accessInstr w a d)) (hwdata : t.wdata = cmdWdata s.input.cmd)
    (hsel : (if w then (lookup s.conf (a16 a)).2 else (lookup s.conf (a16 a)).1) = .default) :
    ∃ u, GenServing s w a d (k + 1) u ∧ u.rspValid = false := by
  obtain ⟨hrsvd, hop, haddr, hdata⟩ := fields_of_decodeCmd_access hcmd
  have ho : t.op = if w then 0b01#2 else 0b00#2 := h.op.trans hop
  have hw : t.isWrite = w := by
    cases w with
    | false => exact isWrite_of_op_zero ho
    | true => exact isWrite_of_op_one ho
  have haccess : t.op = 0b00#2 ∨ t.op = 0b01#2 := by cases w <;> simp [ho]
  have hdefault : t.selected t.isWrite = .default := by
    rw [hw, State.selected, h.conf_eq, h.addr, haddr, hsel]
  have htick : t.fsmTick = t.clearValid.route .default := by
    rw [State.fsmTick_dispatch_access h.st (by simp [h.rsvdNz, hrsvd]) haccess, ← hdefault]
    exact State.whenDone_of_zero (s := t.clearValid) _ hc
  have hrun := runs_snoc.mpr ⟨t, h.run, step_quiet hq⟩
  rw [htick, State.route_default] at hrun
  exact ⟨_, ⟨hrun, rfl, hw, h.addr.trans (congrArg a16 haddr), hwdata.trans hdata, h.busRegs⟩, rfl⟩

/-- Waiting in GEN is still serving the access. -/
theorem GenServing.waits {u : State} {m : Nat} (h : GenServing s w a d k t) (hu : GenWaiting t m u) :
    GenServing s w a d (k + m) u where
  run := runs_add.mpr ⟨t, h.run, hu.run⟩
  st := hu.st_eq.trans h.st
  isWrite := (hu.engine.congr State.isWrite).trans h.isWrite
  addr := (hu.engine.congr State.addr).trans h.addr
  wdata := (hu.engine.congr State.wdata).trans h.wdata
  busRegs := (hu.engine.congr State.busRegs).trans h.busRegs

/-- The GEN_DONE tick ends the access: the end state of R136, and the response with the unit's byte on a read. -/
theorem GenServing.ends (h : GenServing s w a d k t) (hr : t.input.rstN = true) (hd : t.input.genDone = true)
    (hf : t.genFirst = false) : ∃ u, Runs (k + 1) s u ∧ u.st = .idle ∧
      u.hasResponse .success (if w then none else some t.input.genRdata) .default .default ∧
      u.busRegs = ⟨a16 a, if w then d else s.doutR, w, true, s.phi2R⟩ := by
  have hrun := runs_snoc.mpr ⟨t, h.run, step_eq_fsmTick hr (dutyBroken_of_done h.st hf)⟩
  rw [State.fsmTick_gen_done h.st hd, h.isWrite] at hrun
  refine ⟨_, hrun, rfl, finish_advance_hasResponse _ _ _ _ _, ?_⟩
  have hdout : t.doutR = s.doutR := congrArg BusPins.dataOut h.busRegs
  have hphi : t.phi2R = s.phi2R := congrArg BusPins.phi2Out h.busRegs
  calc _ = BusPins.mk t.addr (if w then t.wdata else t.doutR) w true t.phi2R := rfl
    _ = _ := by rw [h.addr, h.wdata, hdout, hphi]

/-- An access that selects DEFAULT is in GEN at the tick after DISPATCH. -/
theorem genServing_first (hs : s.st = .idle) (hv : s.input.cmdValid = true) (hq : s.quiet (s.conf.tDispatch + 1))
    (hcmd : decodeCmd s.input.cmd = .ok (accessInstr w a d))
    (hsel : (if w then (lookup s.conf (a16 a)).2 else (lookup s.conf (a16 a)).1) = .default) :
    ∃ t, GenServing s w a d (s.conf.tDispatch + 1) t ∧ t.rspValid = false := by
  obtain ⟨-, -, -, -, -, -, hpos⟩ := s.timing_pos
  have hq' : s.quiet s.conf.tDispatch := quiet_le hq (Nat.le_succ _)
  obtain ⟨t, ht, hc⟩ := dispatching_last hs hv hq'
  have hwdata : t.wdata = cmdWdata s.input.cmd :=
    dispatching_wdata hs hv hq' (Nat.sub_one_lt_of_lt hpos) (by rwa [Nat.sub_add_cancel hpos])
  exact ht.enters_gen hc (quiet_drop hq ht.run) hcmd hwdata hsel

end

/-- Settles O37: DISPATCH, then GEN while the unit is silent, and the response at its GEN_DONE. -/
theorem genericRunCompletes : Obligations.GenericRunCompletes := by
  unfold Obligations.GenericRunCompletes
  intro s a d w g hs hv hcmd hsel hg hq hr hd
  obtain ⟨u, hu, hvalid⟩ := genServing_first hs hv (quiet_le hq (by omega)) hcmd hsel
  have hwait : ∀ m, s.conf.tDispatch + 1 + m ≤ g → ∃ t, GenWaiting u m t := fun m hm =>
    genWaiting hu.st hvalid (quiet_drop (quiet_le hq hm) hu.run)
  constructor
  · obtain ⟨m, rfl⟩ := Nat.exists_eq_add_of_le (show s.conf.tDispatch + 1 ≤ g by omega)
    obtain ⟨v, hvm⟩ := hwait m le_rfl
    have hserving := hu.waits hvm
    have hin : v.input = s.inputAt (s.conf.tDispatch + 1 + m) := runs_inputAt hserving.run 0
    rw [← hin] at hr hd ⊢
    obtain ⟨t, hrun, hidle, hresp, hbus⟩ := hserving.ends hr hd (hvm.pastFirst (by omega))
    obtain ⟨haddr, hdout, hdir, hrw, hphi⟩ := BusPins.mk.inj hbus
    exact ⟨t, hrun, hidle, hresp, hrw, hphi, haddr, hdir, hdout⟩
  · intro k t hk ht
    rcases Nat.lt_or_ge s.conf.tDispatch k with hlt | hle
    · obtain ⟨m, rfl⟩ := Nat.exists_eq_add_of_le (Nat.succ_le_of_lt hlt)
      obtain ⟨v, hvm⟩ := hwait m hk
      have hserving := hu.waits hvm
      obtain rfl := runs_unique hserving.run ht
      exact ⟨congrArg FsmState.inhibits hserving.st, fun _ => hserving.st⟩
    · refine ⟨?_, fun h => absurd h (by omega)⟩
      rcases dispatching_of_runs hs hv (quiet_le hq (by omega)) hle ht with ⟨-, rfl⟩ | h
      · exact congrArg FsmState.inhibits hs
      · exact congrArg FsmState.inhibits h.st

end Sys2Proof.Machine
end

section
/-!
PROOFS. The synchronized rows tick by tick: SETUP (O39), the polling states CLOW, CHIGH and FINE as one (O40, O41), WAIT,
HIGH and SAMP (O42), FIN (O43); from these, that the wait is all that tells the two strategies apart (O44).
-/

namespace Sys2Proof.Machine

/-! ## A tick of a polling state (R153 to R156) -/

section
variable {s : State}

/-- CLOW, CHIGH and FINE count, and then poll for their level. -/
theorem State.syncTick_polling (hs : s.st.polling = true) (w : Bool) (k : Strat) :
    s.syncTick w k = some (s.whenDone fun u => u.poll (s.st.hit u.input.phi0)
      (fun v => { v with st := s.st.afterLock, cnt := s.st.lockWait v.conf k - 1 })
      (fun v => { v with cnt := s.st.missWait v.conf - 1 })) := by
  rcases FsmState.polling_cases hs with e | e | e <;> simp only [State.syncTick, e] <;> rfl

theorem State.syncTick_counts (hs : s.st.polling = true ∨ s.st = .wait ∨ s.st = .high ∨ s.st = .samp) (hc : 0 < s.cnt)
    (w : Bool) (k : Strat) : s.syncTick w k = some s.count := by
  rcases hs with hs | hs | hs | hs
  · rw [State.syncTick_polling hs, State.whenDone_of_pos _ hc]
  · simp only [State.syncTick, hs, State.waitTick, State.whenDone_of_pos _ hc]
  · simp only [State.syncTick, hs, State.highTick, State.whenDone_of_pos _ hc]
  · simp only [State.syncTick, hs, State.sampTick, State.whenDone_of_pos _ hc]

theorem State.syncTick_lock (hs : s.st.polling = true) (hc : s.cnt = 0) (hh : s.st.hit s.input.phi0 = true) (w : Bool)
    (k : Strat) : s.syncTick w k =
      some { s.countPoll with st := s.st.afterLock, cnt := s.st.lockWait s.conf k - 1 } := by
  rw [State.syncTick_polling hs, State.whenDone_of_zero _ hc, State.poll_lock _ _ hh]
  rfl

theorem State.syncTick_abort (hs : s.st.polling = true) (hc : s.cnt = 0) (hh : s.st.hit s.input.phi0 = false)
    (hu : s.conf.pollUnbounded = false) (hb : s.conf.pollBudget ≤ s.polls + 1) (w : Bool) (k : Strat) :
    s.syncTick w k = some s.countPoll.raiseNoClockDetected := by
  rw [State.syncTick_polling hs, State.whenDone_of_zero _ hc, State.poll_abort _ _ hh hu hb]

theorem State.syncTick_again (hs : s.st.polling = true) (hc : s.cnt = 0) (hh : s.st.hit s.input.phi0 = false)
    (hb : s.conf.pollUnbounded = true ∨ s.polls + 1 < s.conf.pollBudget) (w : Bool) (k : Strat) :
    s.syncTick w k = some { s.countPoll with cnt := s.st.missWait s.conf - 1 } := by
  rw [State.syncTick_polling hs, State.whenDone_of_zero _ hc, State.poll_again _ _ hh hb]
  rfl

end

/-! ## A tick of a synchronized row -/

section
variable {s : State} {i : Instr} {w : Bool} {k : Strat}

/-- From CLOW to FIN a synchronized row takes the tick of the cycle of its direction and strategy. -/
theorem exec_onBus (hi : syncRow i = some (w, k)) (hs : s.st.onBus = true) {t : State}
    (ht : s.clearValid.syncTick w k = some t) : exec i s = .next t := by
  rw [exec_sync hi, syncCycle_sync (.inr hs), ht]
  rfl

theorem exec_counts (hi : syncRow i = some (w, k)) (hs : s.st.polling = true ∨ s.st = .wait ∨ s.st = .high ∨ s.st = .samp)
    (hc : 0 < s.cnt) : exec i s = .next s.clearValid.count := by
  have hbus : s.st.onBus = true := by
    rcases hs with hs | hs | hs | hs
    · exact FsmState.onBus_of_polling hs
    all_goals rw [hs]; rfl
  exact exec_onBus hi hbus (State.syncTick_counts (s := s.clearValid) hs hc w k)

theorem exec_lock (hi : syncRow i = some (w, k)) (hs : s.st.polling = true) (hc : s.cnt = 0)
    (hh : s.st.hit s.input.phi0 = true) : exec i s =
      .next { s.clearValid.countPoll with st := s.st.afterLock, cnt := s.st.lockWait s.conf k - 1 } :=
  exec_onBus hi (FsmState.onBus_of_polling hs) (State.syncTick_lock (s := s.clearValid) hs hc hh w k)

theorem exec_abort (hi : syncRow i = some (w, k)) (hs : s.st.polling = true) (hc : s.cnt = 0)
    (hh : s.st.hit s.input.phi0 = false) (hu : s.conf.pollUnbounded = false) (hb : s.conf.pollBudget ≤ s.polls + 1) :
    exec i s = .next s.clearValid.countPoll.raiseNoClockDetected :=
  exec_onBus hi (FsmState.onBus_of_polling hs) (State.syncTick_abort (s := s.clearValid) hs hc hh hu hb w k)

theorem exec_again (hi : syncRow i = some (w, k)) (hs : s.st.polling = true) (hc : s.cnt = 0)
    (hh : s.st.hit s.input.phi0 = false) (hb : s.conf.pollUnbounded = true ∨ s.polls + 1 < s.conf.pollBudget) :
    exec i s = .next { s.clearValid.countPoll with cnt := s.st.missWait s.conf - 1 } :=
  exec_onBus hi (FsmState.onBus_of_polling hs) (State.syncTick_again (s := s.clearValid) hs hc hh hb w k)

theorem exec_wait (hi : syncRow i = some (w, k)) (hs : s.st = .wait) : exec i s = .next s.clearValid.waitTick := by
  rw [exec_sync hi, syncCycle_wait hs]

theorem exec_high (hi : syncRow i = some (w, k)) (hs : s.st = .high) : exec i s = .next s.clearValid.highTick := by
  rw [exec_sync hi, syncCycle_high hs]

theorem exec_samp (hi : syncRow i = some (w, k)) (hs : s.st = .samp) : exec i s = .next (s.clearValid.sampTick w) := by
  rw [exec_sync hi, syncCycle_samp hs]

theorem exec_fin (hi : syncRow i = some (w, k)) (hs : s.st = .fin) : exec i s = .next (s.clearValid.finTick w) := by
  rw [exec_sync hi, syncCycle_fin hs]

end

/-- FIN responds Success (R162). -/
theorem State.finTick_success {s : State} (hf : s.finStatus = .success) (w : Bool) : s.finTick w =
    State.finish .success (if w then none else some s.scratch) .default .default { s with rwR := true } :=
  if_pos hf

/-- FIN responds NoClockDetected (R162). -/
theorem State.finTick_failure {s : State} (hf : s.finStatus ≠ .success) (w : Bool) : s.finTick w =
    State.finish .noClockDetected none .default .default { s with rwR := true } :=
  if_neg hf

/-- A finite budget that is not spent by this poll (R153). -/
theorem not_spent_iff (c : Config) (n : Nat) : ¬ (c.pollUnbounded = false ∧ c.pollBudget ≤ n) ↔
    c.pollUnbounded = true ∨ n < c.pollBudget := by
  rw [not_and_or, Bool.not_eq_false, Nat.not_le]

/-- Settles O39: each row's SETUP tick is that of its direction. -/
theorem setupDrivesTheBus : Obligations.SetupDrivesTheBus := by
  unfold Obligations.SetupDrivesTheBus
  intro s b l x hs r w
  have hexec : ∀ {i k} (d : Bool), syncRow i = some (d, k) → exec i s = .next (s.clearValid.setupTick d) := fun _ hi => by
    rw [exec_sync hi, syncCycle_setup hs]
  exact ⟨hexec false rfl, hexec false rfl, hexec true rfl, hexec true rfl⟩

/-- Settles O40: the branches of a poll, for CLOW and for CHIGH. -/
theorem coarsePolls : Obligations.CoarsePolls := by
  unfold Obligations.CoarsePolls
  intro s i w k hi hs p hitLevel spent
  have hp : s.st.polling = true := by rcases hs with e | e <;> rw [e] <;> rfl
  have hmiss : s.input.phi0 = !hitLevel → s.st.hit s.input.phi0 = false := fun h => by
    rcases hs with e | e <;> simp [h, hitLevel, e, FsmState.hit]
  have hwait : s.st.missWait s.conf = s.conf.cPoll := by rcases hs with e | e <;> rw [e] <;> rfl
  refine ⟨exec_counts hi (.inl hp), fun hc hst h => ?_, fun hc hst h => ?_, fun hc h hb => ?_, fun hc h hb => ?_⟩
  · rw [exec_lock hi hp hc (by simp [hst, h, FsmState.hit]), hst]
    rfl
  · rw [exec_lock hi hp hc (by simp [hst, h, FsmState.hit]), hst]
    rfl
  · obtain ⟨hu, hb⟩ := hb
    exact exec_abort hi hp hc (hmiss h) hu hb
  · rw [exec_again hi hp hc (hmiss h) ((not_spent_iff _ _).mp hb), hwait]
    rfl

/-- Settles O41: the branches of a poll, for FINE. -/
theorem fineChecks : Obligations.FineChecks := by
  unfold Obligations.FineChecks
  intro s i w k hi hs p
  have hp : s.st.polling = true := by rw [hs]; rfl
  have hlock : s.cnt = 0 → s.input.phi0 = false → exec i s =
      .next { s.clearValid.countPoll with st := .wait, cnt := waitOf s.conf k - 1 } := fun hc h => by
    rw [exec_lock hi hp hc (by simp [hs, h, FsmState.hit]), hs]
    rfl
  have hmiss : s.input.phi0 = true → s.st.hit s.input.phi0 = false := fun h => by simp [hs, h, FsmState.hit]
  refine ⟨exec_counts hi (.inl hp), fun hc h hk => ?_, fun hc h hk => ?_, fun hc h hu hb => ?_, fun hc h hb => ?_⟩
  · rw [hlock hc h, hk]
    rfl
  · rw [hlock hc h, hk]
    rfl
  · exact exec_abort hi hp hc (hmiss h) hu hb
  · rw [exec_again hi hp hc (hmiss h) hb, show s.st.missWait s.conf = s.conf.tRuler by rw [hs]; rfl]
    rfl

/-- Settles O42: the two branches of each state. -/
theorem waitHighSampTicks : Obligations.WaitHighSampTicks := by
  unfold Obligations.WaitHighSampTicks
  intro s i w k hi
  refine ⟨fun hs hc => exec_counts hi (.inr hs) hc, fun hs hc => ?_, fun hs hc => ?_, fun hs hc hw => ?_,
    fun hs hc hw => ?_⟩
  · rw [exec_wait hi hs, State.waitTick, State.whenDone_of_zero (s := s.clearValid) _ hc]
    rfl
  · rw [exec_high hi hs, State.highTick, State.whenDone_of_zero (s := s.clearValid) _ hc]
    rfl
  · rw [exec_samp hi hs, State.sampTick, State.whenDone_of_zero (s := s.clearValid) _ hc, hw]
    rfl
  · rw [exec_samp hi hs, State.sampTick, State.whenDone_of_zero (s := s.clearValid) _ hc, hw]
    rfl

/-- Settles O43: the two branches of FIN, of which Success shows the data of a read. -/
theorem finResponds : Obligations.FinResponds := by
  unfold Obligations.FinResponds
  intro s i w k hi hs
  refine ⟨congrArg FsmState.inhibits hs, fun hf hw => ?_, fun hf hw => ?_, fun hf => ?_⟩
  · rw [exec_fin hi hs, State.finTick_success (s := s.clearValid) hf, hw]
    rfl
  · rw [exec_fin hi hs, State.finTick_success (s := s.clearValid) hf, hw]
    rfl
  · rw [exec_fin hi hs, State.finTick_failure (s := s.clearValid) hf]
    rfl

/-! ## The two strategies (R168) -/

/-- The strategy enters a tick of the cycle by the wait that a FINE lock loads, and by nothing else. -/
theorem State.syncTick_strat_irrelevant {s : State} (h : ¬ (s.st = .fine ∧ s.cnt = 0 ∧ s.input.phi0 = false)) (w : Bool)
    (k l : Strat) : s.syncTick w k = s.syncTick w l := by
  by_cases hs : s.st = .fine
  · have hp : s.st.polling = true := by rw [hs]; rfl
    rcases Nat.eq_zero_or_pos s.cnt with hc | hc
    · have hmiss : s.st.hit s.input.phi0 = false := by
        simpa [hs, FsmState.hit] using fun hlow => h ⟨hs, hc, hlow⟩
      by_cases hb : s.conf.pollUnbounded = true ∨ s.polls + 1 < s.conf.pollBudget
      · rw [State.syncTick_again hp hc hmiss hb, State.syncTick_again hp hc hmiss hb]
      · obtain ⟨hu, hb⟩ := Classical.not_not.mp (mt (not_spent_iff _ _).mp hb)
        rw [State.syncTick_abort hp hc hmiss hu hb, State.syncTick_abort hp hc hmiss hu hb]
    · rw [State.syncTick_counts (.inl hp) hc, State.syncTick_counts (.inl hp) hc]
  · cases e : s.st <;> simp only [State.syncTick, e]
    exact absurd e hs

/-- Settles O44: a FINE lock loads the row's own wait, and no other tick reads the strategy. -/
theorem skipDiffersOnlyInTheWait : Obligations.SkipDiffersOnlyInTheWait := by
  unfold Obligations.SkipDiffersOnlyInTheWait
  intro s b l x hs
  have hexec : ∀ {i w k}, syncRow i = some (w, k) → exec i s = orNotAtThisTick (s.clearValid.syncTick w k) :=
    fun hi => by rw [exec_sync hi, syncCycle_sync hs]
  refine ⟨fun h => ?_, fun hst hc hphi => ?_⟩
  · have hsame : ∀ {i j w k k'}, syncRow i = some (w, k) → syncRow j = some (w, k') → exec i s = exec j s :=
      fun hi hj => by rw [hexec hi, hexec hj, State.syncTick_strat_irrelevant (s := s.clearValid) h]
    exact ⟨hsame rfl rfl, hsame rfl rfl⟩
  · have hlock : ∀ {i w} (k : Strat), syncRow i = some (w, k) → exec i s =
        .next { s.clearValid.countPoll with st := .wait, cnt := waitOf s.conf k - 1 } := fun _ hi => by
      rw [exec_lock hi (by rw [hst]; rfl) hc (by simp [hst, hphi, FsmState.hit]), hst]
      rfl
    exact ⟨{ s.clearValid.countPoll with st := .wait }, { s.clearValid.countPoll with st := .wait },
      hlock .syncPhi0 rfl, hlock .syncPhi0Skip rfl, hlock .syncPhi0 rfl, hlock .syncPhi0Skip rfl⟩

end Sys2Proof.Machine
end

section
/-!
PROOFS. What a bus cycle is entered by (O27), what it reads of phi0 (O48), and the byte it reads (O45).
-/

namespace Sys2Proof.Machine

/-! ## The ways into a cycle (R202 to R205) -/

theorem FsmState.afterLock_ne_gen_setup (st : FsmState) :
    st.afterLock ≠ .gen ∧ st.afterLock ≠ .setup := by
  cases st <;> exact ⟨nofun, nofun⟩

theorem FsmState.ne_setup_of_polling {st : FsmState} (h : st.polling = true) : st ≠ .setup := by
  rintro rfl; cases h

/-- GEN is entered by the last DISPATCH tick of an access that selects DEFAULT. -/
theorem Move.from_of_gen {s t : State} (h : Move s t) (ht : t.st = .gen) (hs : s.st ≠ .gen) :
    s.st = .dispatch ∧ s.cnt = 0 ∧ s.rsvdNz = false ∧ (s.op = 0b00#2 ∨ s.op = 0b01#2) ∧
      s.selected s.isWrite = .default := by
  cases h with
  | entersGen hd hc hr ho hk => exact ⟨hd, hc, hr, ho, hk⟩
  | idles | counts | genWaits | pollsAgain => exact absurd ht hs
  | locks => exact absurd ht (FsmState.afterLock_ne_gen_setup _).1
  | _ => cases ht

/-- SETUP is entered by the last DISPATCH tick of an access that selects a synchronized strategy which the build has. -/
theorem Move.from_of_setup {s t : State} (h : Move s t) (ht : t.st = .setup) :
    s.st = .dispatch ∧ s.cnt = 0 ∧ s.rsvdNz = false ∧ (s.op = 0b00#2 ∨ s.op = 0b01#2) ∧
      (s.selected s.isWrite = .syncPhi0 ∨ s.selected s.isWrite = .syncPhi0Skip) ∧ s.conf.syncSupported = true := by
  cases h with
  | entersSetup hd hc hr ho hk hsup => exact ⟨hd, hc, hr, ho, hk, hsup⟩
  | idles e | genWaits e => exact absurd (e.symm.trans ht) nofun
  | counts hs =>
    obtain ⟨-, -, hne, -⟩ := hs
    exact absurd ht hne
  | pollsAgain hp => exact absurd ht (FsmState.ne_setup_of_polling hp)
  | locks => exact absurd ht (FsmState.afterLock_ne_gen_setup _).2
  | _ => cases ht

/-- Settles O27: by the moves into the two states; a reset goes to IDLE. -/
theorem noFallbackToAnotherCycle : Obligations.NoFallbackToAnotherCycle := by
  unfold Obligations.NoFallbackToAnotherCycle
  intro s t h
  cases hr : s.input.rstN with
  | false =>
    rw [eq_resetTick_of_step hr h]
    exact ⟨nofun, nofun⟩
  | true =>
    obtain ⟨u, hm, rfl⟩ := move_of_step hr h
    exact ⟨hm.from_of_gen, hm.from_of_setup⟩

/-! ## PHI0_IN (R153, R157) -/

/-- Settles O48: PHI0_IN enters `SameReads` by the polls alone. -/
theorem phi0ReadOnlyAtPolls : Obligations.Phi0ReadOnlyAtPolls := by
  unfold Obligations.Phi0ReadOnlyAtPolls
  intro s b h
  exact step_withInput rfl fun _ => ⟨rfl, fun _ => ⟨rfl, fun _ => rfl⟩, fun _ => rfl,
    fun hp hc => absurd ⟨FsmState.polling_cases hp, hc⟩ h, fun _ _ _ => rfl⟩

/-! ## The byte of a snapshot (R161) -/

/-- A logical bit is set by a source bit of the polarity that its entry names. -/
theorem logicalBit_iff (p : List Byte) (m : MapEntry) : logicalBit p m = true ↔
    (m.inv = true ∧ portBit p m = false) ∨ (m.inv = false ∧ portBit p m = true) := by
  simp [logicalBit]

/-- Snapshots that show the same mapped bits reassemble to the same byte. -/
theorem reassemble_congr {c : Config} {p q : List Byte}
    (h : ∀ i : Fin 8, portBit q c.bitmap[i] = portBit p c.bitmap[i]) : reassemble c q = reassemble c p := by
  ext j hj
  have hbit : portBit q c.bitmap[j] = portBit p c.bitmap[j] := h ⟨j, hj⟩
  rw [reassemble_getElem _ _ _ hj, reassemble_getElem _ _ _ hj, logicalBit_eq_xor, logicalBit_eq_xor, hbit]

/-- Settles O45: bit by bit. -/
theorem reassemblyRecoversTheByte : Obligations.ReassemblyRecoversTheByte := by
  unfold Obligations.ReassemblyRecoversTheByte
  refine fun c p => ⟨fun i => ?_, fun q => reassemble_congr, fun d => reassemble_eq_of_portBit⟩
  rw [BitVec.getLsbD_eq_getElem i.isLt, reassemble_getElem _ _ _ i.isLt]
  exact logicalBit_iff p c.bitmap[i]

end Sys2Proof.Machine
end

section
/-!
PROOFS. The ticks after the fine lock: WAIT, the PHI2 pulse, the snapshot and the response at their exact ticks (O50), and
where the pulse lands against its target edge (O59).
-/

namespace Sys2Proof.Machine

/-! ## What a cycle holds on the bus (R91, R165) -/

/-- What no tick from CLOW to SAMP moves: the latched OP, the strategy, and the bus registers but PHI2. -/
structure Held (s t : State) : Prop where
  op : t.op = s.op
  strat : t.strat = s.strat
  addrR : t.addrR = s.addrR
  doutR : t.doutR = s.doutR
  dirR : t.dirR = s.dirR
  rwR : t.rwR = s.rwR

theorem Held.refl (s : State) : Held s s := ⟨rfl, rfl, rfl, rfl, rfl, rfl⟩

theorem Held.trans {s t u : State} (h : Held s t) (h' : Held t u) : Held s u where
  op := h'.op.trans h.op
  strat := h'.strat.trans h.strat
  addrR := h'.addrR.trans h.addrR
  doutR := h'.doutR.trans h.doutR
  dirR := h'.dirR.trans h.dirR
  rwR := h'.rwR.trans h.rwR

theorem Held.isWrite {s t : State} (h : Held s t) : t.isWrite = s.isWrite := congrArg (·.getLsbD 0) h.op

theorem Move.held {s t : State} (h : Move s t) (hs : s.st.inhibits = true) : Held s t := by
  cases h with
  | idles e | latches e | entersGen e | entersSetup e | turnsAway e | genEnds e | setsUp e | succeeds e | fails e =>
    rw [e] at hs; cases hs
  | _ => exact ⟨rfl, rfl, rfl, rfl, rfl, rfl⟩

theorem Held.tick {s : State} (hs : s.st.inhibits = true) : Held s s.fsmTick.advance :=
  { s.fsmTick_move.held hs with }

/-! ## The states of the pulse (R158 to R162) -/

/-- The tick of the snapshot, counted from the WAIT state `s`. -/
def State.snapTick (s : State) : Nat := s.cnt + 1 + s.conf.tHigh + s.conf.tSample

/-- Where the cycle stands at `t`, `k` ticks after the WAIT state `s`: each stage with PHI2 and the tick it is due to end. -/
inductive PulseStage (s : State) (k : Nat) (t : State) : Prop where
  | waiting (hs : t.st = .wait) (hphi : t.phi2R = false) (due : k + t.cnt = s.cnt)
  | pulsing (hs : t.st = .high) (hphi : t.phi2R = true) (since : s.cnt < k) (due : k + t.cnt = s.cnt + s.conf.tHigh)
  | sampling (hs : t.st = .samp) (hphi : t.phi2R = false) (since : s.cnt + s.conf.tHigh < k) (due : k + t.cnt = s.snapTick)
  | ending (hs : t.st = .fin) (hphi : t.phi2R = false) (due : k = s.snapTick + 1)
    (byte : s.isWrite = false → t.scratch = reassemble s.conf (portSample s.conf (s.inputAt s.snapTick)))

/-- `t` is the state `k` ticks after the WAIT state `s`, in the same cycle. -/
structure Pulsing (s : State) (k : Nat) (t : State) : Prop where
  run : Runs k s t
  held : Held s t
  finStatus : t.finStatus = s.finStatus
  stage : PulseStage s k t

section
variable {s t : State} {k : Nat}

theorem Pulsing.conf_eq (h : Pulsing s k t) : t.conf = s.conf := congrArg Subtype.val (runs_cfg h.run)

theorem PulseStage.inhibits (h : PulseStage s k t) (hk : k ≤ s.snapTick) :
    t.st.inhibits = true ∧ ¬ t.st.polling = true := by
  cases h with
  | waiting hs | pulsing hs | sampling hs => rw [hs]; exact ⟨rfl, nofun⟩
  | ending _ _ due => omega

/-- WAIT, HIGH and SAMP count to the tick they are due to end, and then take the next stage. -/
theorem PulseStage.next (h : PulseStage s k t) (hk : k ≤ s.snapTick) (hconf : t.conf = s.conf)
    (hw : t.isWrite = s.isWrite) (hin : t.input = s.inputAt k) : PulseStage s (k + 1) t.fsmTick.advance := by
  obtain ⟨-, -, -, -, -, hhigh, -⟩ := s.timing_pos
  cases h with
  | waiting hs hphi due =>
    rw [State.fsmTick_wait hs]
    rcases t.clearValid.waitTick_cases with ⟨hc, e⟩ | ⟨hc, e⟩ <;> rw [e] <;> rw [State.clearValid_cnt] at hc
    · refine .waiting hs hphi ?_
      show k + 1 + (t.cnt - 1) = s.cnt
      omega
    · refine .pulsing rfl rfl (by omega) ?_
      show k + 1 + (t.conf.tHigh - 1) = s.cnt + s.conf.tHigh
      rw [hconf]
      omega
  | pulsing hs hphi since due =>
    rw [State.fsmTick_high hs]
    rcases t.clearValid.highTick_cases with ⟨hc, e⟩ | ⟨hc, e⟩ <;> rw [e] <;> rw [State.clearValid_cnt] at hc
    · refine .pulsing hs hphi (by omega) ?_
      show k + 1 + (t.cnt - 1) = s.cnt + s.conf.tHigh
      omega
    · refine .sampling rfl rfl (by omega) ?_
      show k + 1 + t.conf.tSample = s.cnt + 1 + s.conf.tHigh + s.conf.tSample
      rw [hconf]
      omega
  | sampling hs hphi since due =>
    rw [State.fsmTick_samp hs]
    rcases t.clearValid.sampTick_cases t.isWrite with ⟨hc, e⟩ | ⟨hc, e⟩ <;> rw [e] <;> rw [State.clearValid_cnt] at hc
    · refine .sampling hs hphi (by omega) ?_
      show k + 1 + (t.cnt - 1) = s.snapTick
      omega
    · obtain rfl : k = s.snapTick := by omega
      refine .ending rfl hphi rfl fun hread => ?_
      show (if t.isWrite then t.scratch else reassemble t.conf (portSample t.conf t.input)) = _
      rw [hw, hread, hconf, hin]
      rfl
  | ending _ _ due => omega

theorem Pulsing.next (h : Pulsing s k t) (hk : k ≤ s.snapTick) (hq : t.quiet 1) :
    Pulsing s (k + 1) t.fsmTick.advance := by
  obtain ⟨hinhibits, hpoll⟩ := h.stage.inhibits hk
  have hsetup : t.st ≠ .setup := fun e => by rw [e] at hinhibits; cases hinhibits
  obtain ⟨hstatus, -⟩ := t.fsmTick_move.finStatus_polls_eq hsetup hpoll
  exact ⟨runs_snoc.mpr ⟨t, h.run, step_quiet hq⟩, h.held.trans (Held.tick hinhibits), hstatus.trans h.finStatus,
    h.stage.next hk h.conf_eq h.held.isWrite (runs_inputAt h.run 0)⟩

/-- From WAIT the ticks up to FIN are those of the pulse. -/
theorem pulsing (hs : s.st = .wait) (hphi : s.phi2R = false) (hq : s.quiet k) (hk : k ≤ s.snapTick + 1) :
    ∃ t, Pulsing s k t := by
  induction k with
  | zero => exact ⟨s, runs_zero.mpr rfl, Held.refl s, rfl, .waiting hs hphi (Nat.zero_add _)⟩
  | succ k ih =>
    obtain ⟨t, ht⟩ := ih (quiet_le hq k.le_succ) (Nat.le_of_succ_le hk)
    exact ⟨_, ht.next (Nat.le_of_succ_le_succ hk) (quiet_drop hq ht.run)⟩

/-- PHI2 is high at the T_HIGH ticks after the wait (R158, R159). -/
theorem PulseStage.phi2R_iff (h : PulseStage s k t) :
    t.phi2R = true ↔ s.cnt + 1 ≤ k ∧ k < s.cnt + 1 + s.conf.tHigh := by
  cases h with
  | waiting _ hphi due => simp only [hphi, Bool.false_eq_true, false_iff]; omega
  | pulsing _ hphi since due => simp only [hphi, true_iff]; omega
  | sampling _ hphi since due => simp only [hphi, Bool.false_eq_true, false_iff]; omega
  | ending _ hphi due =>
    simp only [hphi, Bool.false_eq_true, false_iff]
    simp only [State.snapTick] at due
    omega

/-- FIN follows the snapshot, with its byte in `scratch` (R160). -/
theorem PulseStage.fin_of_lt (h : PulseStage s k t) (hk : s.snapTick < k) : t.st = .fin ∧ t.phi2R = false ∧
    (s.isWrite = false → t.scratch = reassemble s.conf (portSample s.conf (s.inputAt s.snapTick))) := by
  cases h with
  | ending hs hphi _ byte => exact ⟨hs, hphi, byte⟩
  | waiting _ _ due => simp only [State.snapTick] at hk; omega
  | pulsing _ _ _ due => simp only [State.snapTick] at hk; omega
  | sampling _ _ _ due => omega

/-- The inhibit window lasts up to the snapshot (R46, R163). -/
theorem PulseStage.irqInhibit_iff (h : PulseStage s k t) : t.irqInhibit = true ↔ k ≤ s.snapTick := by
  rcases Nat.lt_or_ge s.snapTick k with hlt | hle
  · obtain ⟨hfin, -⟩ := h.fin_of_lt hlt
    exact iff_of_false (by rw [State.irqInhibit, hfin]; nofun) hlt.not_ge
  · obtain ⟨hinhibits, -⟩ := h.inhibits hle
    exact iff_of_true hinhibits hle

theorem PulseStage.st_ne_idle (h : PulseStage s k t) : t.st ≠ .idle := by
  cases h with
  | waiting hs | pulsing hs | sampling hs | ending hs => rw [hs]; nofun

/-- The FIN tick of a cycle that succeeds (R162). -/
theorem Pulsing.responds (h : Pulsing s (s.snapTick + 1) t) (hf : s.finStatus = .success) (hq : t.quiet 1) :
    ∃ u, Runs (s.snapTick + 2) s u ∧ u.st = .idle ∧ u.rwR = true ∧ u.phi2R = false ∧
      (u.addrR = s.addrR ∧ u.dirR = s.dirR ∧ u.doutR = s.doutR) ∧
      u.hasResponse .success (if s.isWrite then none else
        some (reassemble s.conf (portSample s.conf (s.inputAt s.snapTick)))) .default .default := by
  obtain ⟨hfin, hphi, hbyte⟩ := h.stage.fin_of_lt (Nat.lt_succ_self _)
  have hrun := runs_snoc.mpr ⟨t, h.run, step_quiet hq⟩
  rw [State.fsmTick_fin hfin, State.finTick_success (s := t.clearValid) (h.finStatus.trans hf), h.held.isWrite] at hrun
  refine ⟨_, hrun, rfl, rfl, hphi, ⟨h.held.addrR, h.held.dirR, h.held.doutR⟩, ?_⟩
  have hdata : (if s.isWrite then none else some t.scratch) =
      if s.isWrite then none else some (reassemble s.conf (portSample s.conf (s.inputAt s.snapTick))) := by
    cases hw : s.isWrite with
    | true => rfl
    | false => rw [hbyte hw]
  rw [← hdata]
  exact finish_advance_hasResponse _ _ _ _ _

end

/-- Settles O50: the stages of the pulse up to FIN, and FIN's response. -/
theorem pulseTimeline : Obligations.PulseTimeline := by
  unfold Obligations.PulseTimeline
  intro s hs hphi hf snap hq
  obtain ⟨v, hv⟩ := pulsing hs hphi (quiet_le hq (Nat.le_succ _)) (le_refl (s.snapTick + 1))
  obtain ⟨u, hrun, hidle, hrw, hlow, ⟨haddr, hdir, hdout⟩, hresp⟩ := hv.responds hf (quiet_drop hq hv.run)
  refine ⟨fun k hk => ?_, u, hrun, hrw, hresp⟩
  rcases Nat.lt_or_eq_of_le hk with hlt | rfl
  · obtain ⟨t, ht⟩ := pulsing hs hphi (quiet_le hq hk) (Nat.lt_succ_iff.mp hlt)
    exact ⟨t, ht.run, ht.stage.phi2R_iff, ht.stage.irqInhibit_iff, iff_of_false ht.stage.st_ne_idle hlt.ne,
      ht.held.addrR, ht.held.dirR, ht.held.doutR⟩
  · refine ⟨u, hrun, ?_, ?_, iff_of_true hidle rfl, haddr, hdir, hdout⟩
    · simp only [hlow, Bool.false_eq_true, false_iff, snap]
      omega
    · simp only [State.irqInhibit, hidle, FsmState.inhibits, Bool.false_eq_true, false_iff]
      omega

/-! ## The target edge (R173, R175) -/

/-- The target edge against the rise of PHI2: the longer wait is longer by just the period between the two edges. -/
theorem edge_sub_rise {c : Config} {p : Phi0} {f : Nat} (hskip : c.tWaitSkip = c.tWait + p.period) (hf : f ≤ p.period)
    (k : Strat) : (p.toNextRise f : Int) - 1 + (if k = .syncPhi0Skip then (p.period : Int) else 0) - waitOf c k =
      p.period - f - 1 - c.tWait := by
  simp only [Phi0.toNextRise, waitOf]
  split <;> omega

/-- Settles O59: PHI2 rises after the wait, and its lead is that of the lock's phase whatever the strategy. -/
theorem pulseLandsBeforeItsTargetEdge : Obligations.PulseLandsBeforeItsTargetEdge := by
  unfold Obligations.PulseLandsBeforeItsTargetEdge
  intro s p f delta hok hdelta hlow hf hf' hs hphi hskip hc hq edge rise
  obtain ⟨-, -, -, -, -, hhigh, -⟩ := s.timing_pos
  have hwait : s.cnt + 1 = waitOf s.conf s.strat := by
    have hpos := one_le_waitOf s s.strat
    omega
  have hperiod : f ≤ p.period := by
    simp only [Phi0.low] at hlow
    omega
  have hlead : edge - rise = p.period - f - 1 - s.conf.tWait := edge_sub_rise hskip hperiod s.strat
  have hphase : (p.low : Int) = p.period - p.high := by
    obtain ⟨-, hlt, -⟩ := hok
    simp only [Phi0.low]
    omega
  have hstage : ∀ k ≤ waitOf s.conf s.strat, ∃ t, Pulsing s k t := fun k hk =>
    pulsing hs hphi (quiet_le hq hk) (by simp only [State.snapTick]; omega)
  refine ⟨?_, fun k u hk hu => ?_, by omega, by omega, fun hle => by omega⟩
  · obtain ⟨t, ht⟩ := hstage _ le_rfl
    exact ⟨t, ht.run, ht.stage.phi2R_iff.mpr (by omega)⟩
  · obtain ⟨t, ht⟩ := hstage k hk.le
    obtain rfl := runs_unique ht.run hu
    exact Bool.eq_false_iff.mpr fun h => by
      have hrange := ht.stage.phi2R_iff.mp h
      omega

end Sys2Proof.Machine
end

section
/-!
PROOFS. Polls that miss. A polling state whose polls miss stays as it is, at a known tick of its counter and a known
number of polls (`Missing`); so an unbounded poll hangs (O54), a missed poll past the budget aborts (O51), and a stuck
phi0 is detected at one tick (O53).
-/

namespace Sys2Proof.Machine

/-! ## The FSM's tick in a polling state (R153) -/

section
variable {s : State}

theorem State.fsmTick_of_syncTick {t : State} (hs : s.st.onBus = true)
    (h : s.clearValid.syncTick s.isWrite s.strat = some t) : s.fsmTick = t :=
  Option.some.inj ((State.syncTick_eq_fsmTick (.inr hs)).symm.trans h)

theorem State.fsmTick_counts (hs : s.st.polling = true) (hc : 0 < s.cnt) : s.fsmTick = s.clearValid.count :=
  State.fsmTick_of_syncTick (FsmState.onBus_of_polling hs) (State.syncTick_counts (s := s.clearValid) (.inl hs) hc _ _)

theorem State.fsmTick_lock (hs : s.st.polling = true) (hc : s.cnt = 0) (hh : s.st.hit s.input.phi0 = true) :
    s.fsmTick = { s.clearValid.countPoll with st := s.st.afterLock, cnt := s.st.lockWait s.conf s.strat - 1 } :=
  State.fsmTick_of_syncTick (FsmState.onBus_of_polling hs) (State.syncTick_lock (s := s.clearValid) hs hc hh _ _)

theorem State.fsmTick_abort (hs : s.st.polling = true) (hc : s.cnt = 0) (hh : s.st.hit s.input.phi0 = false)
    (hu : s.conf.pollUnbounded = false) (hb : s.conf.pollBudget ≤ s.polls + 1) :
    s.fsmTick = s.clearValid.countPoll.raiseNoClockDetected :=
  State.fsmTick_of_syncTick (FsmState.onBus_of_polling hs) (State.syncTick_abort (s := s.clearValid) hs hc hh hu hb _ _)

theorem State.fsmTick_again (hs : s.st.polling = true) (hc : s.cnt = 0) (hh : s.st.hit s.input.phi0 = false)
    (hb : s.conf.pollUnbounded = true ∨ s.polls + 1 < s.conf.pollBudget) :
    s.fsmTick = { s.clearValid.countPoll with cnt := s.st.missWait s.conf - 1 } :=
  State.fsmTick_of_syncTick (FsmState.onBus_of_polling hs) (State.syncTick_again (s := s.clearValid) hs hc hh hb _ _)

end

theorem FsmState.inhibits_of_polling {st : FsmState} (h : st.polling = true) : st.inhibits = true := by
  rcases FsmState.polling_cases h with rfl | rfl | rfl <;> rfl

/-! ## A run of polls that miss -/

/-- The tick of poll `i` from the polling state `s` on, counted from 0, if all before it miss. -/
def State.pollTick (s : State) (i : Nat) : Nat := s.cnt + i * s.st.missWait s.conf

/-- Poll `i` from the polling state `s` on misses, and the budget allows another. -/
def State.missesPoll (s : State) (i : Nat) : Prop :=
  s.st.hit (s.inputAt (s.pollTick i)).phi0 = false ∧
    (s.conf.pollUnbounded = true ∨ s.polls + i + 1 < s.conf.pollBudget)

/-- `u` is the state `n` ticks after the polling state `s`, still in that state after `i` polls that missed. -/
structure Missing (s : State) (n i : Nat) (u : State) : Prop where
  run : Runs n s u
  st : u.st = s.st
  phi2R : u.phi2R = s.phi2R
  held : Held s u
  due : n + u.cnt = s.pollTick i
  polls : s.conf.pollUnbounded = false → u.polls = s.polls + i

section
variable {s u : State} {n m i : Nat}

theorem Missing.conf_eq (h : Missing s n i u) : u.conf = s.conf := congrArg Subtype.val (runs_cfg h.run)

theorem Missing.input_eq (h : Missing s n i u) (hc : u.cnt = 0) : u.input = s.inputAt (s.pollTick i) := by
  rw [← h.due, hc]
  exact runs_inputAt h.run 0

theorem State.pollTick_succ (s : State) (i : Nat) : s.pollTick (i + 1) = s.pollTick i + s.st.missWait s.conf := by
  rw [State.pollTick, Nat.succ_mul, ← Nat.add_assoc, State.pollTick]

theorem State.pollTick_le_pollTick_iff (s : State) : s.pollTick m ≤ s.pollTick i ↔ m ≤ i := by
  rw [State.pollTick, State.pollTick, Nat.add_le_add_iff_left]
  exact Nat.mul_le_mul_right_iff (FsmState.one_le_missWait s s.st)

theorem Missing.next_of_pos (h : Missing s n i u) (hs : s.st.polling = true) (hc : 0 < u.cnt) (hq : u.quiet 1) :
    Missing s (n + 1) i u.fsmTick.advance := by
  have hp : u.st.polling = true := by rw [h.st, hs]
  have hheld := h.held.trans (Held.tick (FsmState.inhibits_of_polling hp))
  have hrun := runs_snoc.mpr ⟨u, h.run, step_quiet hq⟩
  rw [State.fsmTick_counts hp hc] at hrun hheld ⊢
  refine ⟨hrun, h.st, h.phi2R, hheld, ?_, h.polls⟩
  have hdue := h.due
  show n + 1 + (u.cnt - 1) = s.pollTick i
  omega

theorem Missing.next_of_zero (h : Missing s n i u) (hs : s.st.polling = true) (hc : u.cnt = 0) (hmiss : s.missesPoll i)
    (hq : u.quiet 1) : Missing s (n + 1) (i + 1) u.fsmTick.advance := by
  obtain ⟨hhit, hb⟩ := hmiss
  have hp : u.st.polling = true := by rw [h.st, hs]
  have hheld := h.held.trans (Held.tick (FsmState.inhibits_of_polling hp))
  have hrun := runs_snoc.mpr ⟨u, h.run, step_quiet hq⟩
  have hbudget : u.conf.pollUnbounded = true ∨ u.polls + 1 < u.conf.pollBudget := by
    rw [h.conf_eq]
    cases hu : s.conf.pollUnbounded with
    | true => exact .inl rfl
    | false =>
      rw [h.polls hu]
      exact .inr (hb.resolve_left (by simp [hu]))
  rw [State.fsmTick_again hp hc (by rw [h.st, h.input_eq hc, hhit]) hbudget] at hrun hheld ⊢
  refine ⟨hrun, h.st, h.phi2R, hheld, ?_, fun hu => ?_⟩
  · have hdue := h.due
    have hpos := FsmState.one_le_missWait s s.st
    show n + 1 + (u.st.missWait u.conf - 1) = s.pollTick (i + 1)
    rw [h.st, h.conf_eq, s.pollTick_succ]
    omega
  · have hu' : u.conf.pollUnbounded = false := by rw [h.conf_eq, hu]
    have hlt : u.polls + 1 < u.conf.pollBudget := hbudget.resolve_left (by simp [hu'])
    calc u.clearValid.countPoll.polls = u.polls + 1 := State.countPoll_polls_of_le (s := u.clearValid) hu' hlt.le
      _ = s.polls + (i + 1) := by rw [h.polls hu, Nat.add_assoc]

/-- As long as the polls miss, the engine stays in its polling state. -/
theorem missing (hs : s.st.polling = true) (hq : s.quiet n) (hn : n ≤ s.pollTick m)
    (hmiss : ∀ i < m, s.pollTick i < n → s.missesPoll i) : ∃ i u, i ≤ m ∧ Missing s n i u := by
  induction n with
  | zero =>
    refine ⟨0, s, Nat.zero_le m, runs_zero.mpr rfl, rfl, rfl, Held.refl s, ?_, fun _ => rfl⟩
    rw [State.pollTick, Nat.zero_mul, Nat.zero_add, Nat.add_zero]
  | succ n ih =>
    obtain ⟨i, u, hi, hu⟩ := ih (quiet_le hq n.le_succ) (Nat.le_of_succ_le hn) fun i hi ht =>
      hmiss i hi (Nat.lt_succ_of_lt ht)
    have hq' : u.quiet 1 := quiet_drop hq hu.run
    rcases Nat.eq_zero_or_pos u.cnt with hc | hc
    · have hdue : n = s.pollTick i := by rw [← hu.due, hc, Nat.add_zero]
      have hlt : i < m := Nat.lt_of_not_le fun hle => by
        have hlate := s.pollTick_le_pollTick_iff.mpr hle
        omega
      exact ⟨i + 1, _, hlt, hu.next_of_zero hs hc (hmiss i hlt (by omega)) hq'⟩
    · exact ⟨i, _, hi, hu.next_of_pos hs hc hq'⟩

/-- After `m` polls that miss, poll `m` is due at its tick. -/
theorem missing_at_poll (hs : s.st.polling = true) (hq : s.quiet (s.pollTick m)) (hmiss : ∀ i < m, s.missesPoll i) :
    ∃ u, Missing s (s.pollTick m) m u ∧ u.cnt = 0 := by
  obtain ⟨i, u, hi, hu⟩ := missing hs hq le_rfl fun i hi _ => hmiss i hi
  have hdue := hu.due
  have hle : m ≤ i := s.pollTick_le_pollTick_iff.mp (by omega)
  obtain rfl := Nat.le_antisymm hi hle
  exact ⟨u, hu, by omega⟩

end

/-! ## The unbounded poll (R180) -/

/-- Settles O54: with no budget every poll may miss. -/
theorem unboundedPollHangs : Obligations.UnboundedPollHangs := by
  unfold Obligations.UnboundedPollHangs
  intro s hu
  refine ⟨fun n hit => ?_, fun n level hs hq hlevel => ?_⟩
  · cases hit with
    | true => rw [pollResult_hit]; nofun
    | false => rw [pollResult_again (.inl hu)]; nofun
  · have hp : s.st.polling = true := by rcases hs with ⟨e, -⟩ | ⟨e, -⟩ | ⟨e, -⟩ <;> rw [e] <;> rfl
    have hmiss : s.st.hit level = false := by
      rcases hs with ⟨e, rfl⟩ | ⟨e, rfl⟩ | ⟨e, rfl⟩ <;> rw [e] <;> rfl
    have hn : n ≤ s.pollTick n :=
      Nat.le_add_left_of_le (Nat.le_mul_of_pos_right n (FsmState.one_le_missWait s s.st))
    obtain ⟨i, t, -, ht⟩ := missing hp hq hn fun i _ hlt => ⟨by rw [hlevel _ hlt, hmiss], .inl hu⟩
    refine ⟨t, ht.run, ht.st, ?_⟩
    rw [State.irqInhibit, ht.st, FsmState.inhibits_of_polling hp]

/-! ## The abort (R164, R165, R230) -/

/-- The response word of NoClockDetected (R104, R230). -/
theorem rspWord_finish_noClockDetected (s : State) :
    (s.finish .noClockDetected none .default .default).advance.rspWord = 0x000002#24 := by
  have hword : 0#4 ++ Strat.default.toBits ++ Strat.default.toBits ++ 0x00#8 ++ 0#5 ++ BitVec.ofBool false ++
      Status.noClockDetected.toBits = 0x000002#24 := by decide
  exact hword

section
variable {s : State}

/-- The abort at a missed poll, and the response after it. -/
theorem abort_responds (hs : s.st.polling = true) (hc : s.cnt = 0) (hh : s.st.hit s.input.phi0 = false)
    (hu : s.conf.pollUnbounded = false) (hb : s.conf.pollBudget ≤ s.polls + 1) (hq : s.quiet 2) :
    (∃ t, Runs 1 s t ∧ t.st = .fin ∧ t.finStatus = .noClockDetected ∧ t.irqInhibit = false ∧ t.busRegs = s.busRegs) ∧
    ∃ u, Runs 2 s u ∧ u.st = .idle ∧ u.rspValid = true ∧ u.rspWord = 0x000002#24 ∧
      u.busRegs = { s.busRegs with rw := true } := by
  have hone := runs_one.mpr (step_quiet (quiet_le hq one_le_two))
  rw [State.fsmTick_abort hs hc hh hu hb] at hone
  refine ⟨⟨_, hone, rfl, rfl, rfl, rfl⟩, ?_⟩
  have htwo := runs_snoc.mpr ⟨_, hone, step_quiet (quiet_drop (n := 1) hq hone)⟩
  rw [State.fsmTick_fin rfl, State.finTick_failure (by simp)] at htwo
  exact ⟨_, htwo, rfl, rfl, rspWord_finish_noClockDetected _, rfl⟩

end

/-- Settles O51: in each of the three states the level is the one that misses. -/
theorem pollBudgetAborts : Obligations.PollBudgetAborts := by
  unfold Obligations.PollBudgetAborts
  intro s hs hc hu hb hq
  obtain ⟨hp, hmiss⟩ : s.st.polling = true ∧ s.st.hit s.input.phi0 = false := by
    rcases hs with ⟨e, hphi⟩ | ⟨e, hphi⟩ | ⟨e, hphi⟩ <;> rw [e, hphi] <;> exact ⟨rfl, rfl⟩
  exact abort_responds hp hc hmiss hu hb hq

/-! ## The stuck clock (R164, R165, R268) -/

/-- From `s` the cycle comes to IDLE first at tick `n`, with NoClockDetected and without a pulse; address, direction and
data stay on their registers. -/
structure FailsAt (s : State) (n : Nat) : Prop where
  ticks : ∀ k ≤ n, ∃ t, Runs k s t ∧ t.phi2R = false ∧ (t.st = .idle ↔ k = n) ∧
    t.addrR = s.addrR ∧ t.dirR = s.dirR ∧ t.doutR = s.doutR
  response : ∃ t, Runs n s t ∧ t.rspValid = true ∧ t.rspWord = 0x000002#24 ∧ t.rwR = true

section
variable {s u : State} {m n : Nat}

/-- The missed poll that aborts. -/
theorem failsAt_abort (hs : s.st.polling = true) (hphi : s.phi2R = false) (hc : s.cnt = 0)
    (hh : s.st.hit s.input.phi0 = false) (hu : s.conf.pollUnbounded = false) (hb : s.conf.pollBudget ≤ s.polls + 1)
    (hq : s.quiet 2) : FailsAt s 2 := by
  obtain ⟨⟨t, ht, hfin, -, -, hbus⟩, u, hrun, hidle, hvalid, hword, hbus'⟩ := abort_responds hs hc hh hu hb hq
  obtain ⟨haddr, hdout, hdir, -, hlow⟩ := BusPins.mk.inj hbus
  obtain ⟨haddr', hdout', hdir', hrw', hlow'⟩ := BusPins.mk.inj hbus'
  refine ⟨fun k hk => ?_, u, hrun, hvalid, hword, hrw'⟩
  obtain rfl | rfl | rfl : k = 0 ∨ k = 1 ∨ k = 2 := by omega
  · exact ⟨s, runs_zero.mpr rfl, hphi, iff_of_false (FsmState.ne_idle_of_polling hs) nofun, rfl, rfl, rfl⟩
  · exact ⟨t, ht, hlow.trans hphi, iff_of_false (by rw [hfin]; nofun) nofun, haddr, hdir, hdout⟩
  · exact ⟨u, hrun, hlow'.trans hphi, iff_of_true hidle rfl, haddr', hdir', hdout'⟩

/-- A stretch of the cycle without a pulse before the failure. -/
theorem FailsAt.after (h : FailsAt u n) (hrun : Runs m s u) (hheld : Held s u)
    (hbefore : ∀ k < m, ∃ v, Runs k s v ∧ v.phi2R = false ∧ v.st ≠ .idle ∧ Held s v) : FailsAt s (m + n) := by
  obtain ⟨t, ht, hresp⟩ := h.response
  refine ⟨fun k hk => ?_, t, runs_add.mpr ⟨u, hrun, ht⟩, hresp⟩
  rcases Nat.lt_or_ge k m with hlt | hge
  · obtain ⟨v, hv, hlow, hbusy, hsame⟩ := hbefore k hlt
    exact ⟨v, hv, hlow, iff_of_false hbusy (by omega), hsame.addrR, hsame.dirR, hsame.doutR⟩
  · obtain ⟨j, rfl⟩ := Nat.exists_eq_add_of_le hge
    obtain ⟨v, hv, hlow, hidle, haddr, hdir, hdout⟩ := h.ticks j (Nat.le_of_add_le_add_left hk)
    exact ⟨v, runs_add.mpr ⟨u, hrun, hv⟩, hlow, hidle.trans (Nat.add_left_cancel_iff).symm,
      haddr.trans hheld.addrR, hdir.trans hheld.dirR, hdout.trans hheld.doutR⟩

/-- A polling state that never sees its level fails two ticks after the poll that spends the budget. -/
theorem failsAt_of_stuck (hs : s.st.polling = true) (hphi : s.phi2R = false) (hu : s.conf.pollUnbounded = false)
    (hb : ∀ i < m, s.polls + i + 1 < s.conf.pollBudget) (hspent : s.conf.pollBudget ≤ s.polls + m + 1)
    (hq : s.quiet (s.pollTick m + 2)) (hmiss : ∀ k ≤ s.pollTick m, s.st.hit (s.inputAt k).phi0 = false) :
    FailsAt s (s.pollTick m + 2) := by
  have hmisses : ∀ i < m, s.missesPoll i := fun i hi =>
    ⟨hmiss _ (s.pollTick_le_pollTick_iff.mpr hi.le), .inr (hb i hi)⟩
  obtain ⟨u, hmu, hc⟩ := missing_at_poll hs (quiet_le hq (Nat.le_add_right _ 2)) hmisses
  have hfails : FailsAt u 2 := by
    refine failsAt_abort (by rw [hmu.st, hs]) (hmu.phi2R.trans hphi) hc ?_ (by rw [hmu.conf_eq, hu]) ?_
      (quiet_drop hq hmu.run)
    · rw [hmu.st, hmu.input_eq hc, hmiss _ le_rfl]
    · rw [hmu.conf_eq, hmu.polls hu]
      exact hspent
  refine hfails.after hmu.run hmu.held fun k hk => ?_
  obtain ⟨i, v, -, hv⟩ := missing (n := k) (m := m) hs (quiet_le hq (by omega)) hk.le fun i hi _ => hmisses i hi
  exact ⟨v, hv.run, hv.phi2R.trans hphi, by rw [hv.st]; exact FsmState.ne_idle_of_polling hs, hv.held⟩

/-- The first CLOW tick under a stuck HIGH phi0: each of the budget's polls misses. -/
theorem failsAt_stuck_high (hs : s.st = .clow) (hc : s.cnt = 0) (hp : s.polls = 0) (hphi : s.phi2R = false)
    (hu : s.conf.pollUnbounded = false) (hq : s.quiet ((s.conf.pollBudget - 1) * s.conf.cPoll + 2))
    (hlevel : ∀ k < (s.conf.pollBudget - 1) * s.conf.cPoll + 2, (s.inputAt k).phi0 = true) :
    FailsAt s ((s.conf.pollBudget - 1) * s.conf.cPoll + 2) := by
  have htick : s.pollTick (s.conf.pollBudget - 1) = (s.conf.pollBudget - 1) * s.conf.cPoll := by
    rw [State.pollTick, hs, hc, Nat.zero_add]
    rfl
  rw [← htick] at hq hlevel ⊢
  refine failsAt_of_stuck (by rw [hs]; rfl) hphi hu (fun i hi => by omega) (by omega) hq fun k hk => ?_
  rw [hs, hlevel k (by omega)]
  rfl

/-- The first CHIGH tick, C_POLL ticks before its first poll, under a stuck LOW phi0 (log 6 where the budget is 1). -/
theorem failsAt_stuck_low (hs : s.st = .chigh) (hc : s.cnt = s.conf.cPoll - 1) (hp : s.polls = 1) (hphi : s.phi2R = false)
    (hu : s.conf.pollUnbounded = false) (hq : s.quiet (s.conf.cPoll - 1 + (s.conf.pollBudget - 2) * s.conf.cPoll + 2))
    (hlevel : ∀ k < s.conf.cPoll - 1 + (s.conf.pollBudget - 2) * s.conf.cPoll + 2, (s.inputAt k).phi0 = false) :
    FailsAt s (s.conf.cPoll - 1 + (s.conf.pollBudget - 2) * s.conf.cPoll + 2) := by
  have htick : s.pollTick (s.conf.pollBudget - 2) = s.conf.cPoll - 1 + (s.conf.pollBudget - 2) * s.conf.cPoll := by
    rw [State.pollTick, hs, hc]
    rfl
  rw [← htick] at hq hlevel ⊢
  refine failsAt_of_stuck (by rw [hs]; rfl) hphi hu (fun i hi => by omega) (by omega) hq fun k hk => ?_
  rw [hs, hlevel k (by omega)]
  rfl

/-- The ticks between the first poll and the poll that aborts, under a stuck LOW phi0. -/
theorem stuck_low_ticks {b c : Nat} (hb : 1 ≤ b) (hc : 1 ≤ c) :
    1 + (c - 1 + (b - 2) * c + 2) = (if b = 1 then 1 else b - 1) * c + 2 := by
  split
  case isTrue h => subst h; omega
  case isFalse h =>
    obtain ⟨d, rfl⟩ := Nat.exists_eq_add_of_le (show 2 ≤ b by omega)
    rw [Nat.add_sub_cancel_left, show 2 + d - 1 = d + 1 by omega, Nat.succ_mul]
    omega

end

/-- Settles O53: stuck HIGH, CLOW polls to the budget; stuck LOW, CHIGH does, after the hit that CLOW takes first. -/
theorem stuckClockIsDetected : Obligations.StuckClockIsDetected := by
  unfold Obligations.StuckClockIsDetected
  intro s level hs hc hp hphi hu spaces n hq hlevel
  suffices h : FailsAt s n from ⟨h.ticks, h.response⟩
  have hpoll : s.st.polling = true := by rw [hs]; rfl
  cases level with
  | true => exact failsAt_stuck_high hs hc hp hphi hu hq hlevel
  | false =>
    obtain ⟨hpos, -⟩ := s.timing_pos
    have hn : 1 + (s.conf.cPoll - 1 + (s.conf.pollBudget - 2) * s.conf.cPoll + 2) = n := by
      rw [stuck_low_ticks (State.pollBudget_pos hu) hpos]
      simp [n, spaces]
    rw [← hn] at hq hlevel ⊢
    have hfirst : s.input.phi0 = false := hlevel 0 (by omega)
    have hstep := runs_one.mpr (step_quiet (quiet_le hq (by omega)))
    have hheld := Held.tick (FsmState.inhibits_of_polling hpoll)
    rw [State.fsmTick_lock hpoll hc (by rw [hs, hfirst]; rfl)] at hstep hheld
    refine FailsAt.after ?_ hstep hheld fun k hk => ?_
    · refine failsAt_stuck_low (by simp [hs, FsmState.afterLock]) (by simp [hs, FsmState.lockWait]) ?_ hphi hu
        (quiet_drop hq hstep) fun k hk => ?_
      · rw [← Nat.zero_add 1, ← hp]
        exact State.countPoll_polls_of_le (s := s.clearValid) hu (by
          rw [State.clearValid_polls, hp]; exact State.pollBudget_pos hu)
      · rw [runs_inputAt hstep]
        exact hlevel _ (Nat.add_lt_add_left hk 1)
    · obtain rfl := Nat.lt_one_iff.mp hk
      exact ⟨s, runs_zero.mpr rfl, hphi, FsmState.ne_idle_of_polling hpoll, Held.refl s⟩

end Sys2Proof.Machine
end

section
/-!
PROOFS. The locks under a nominal phi0: the coarse lock comes early in the HIGH phase (O57), and the fine lock within one
ruler quantum after a falling edge (O58).
-/

namespace Sys2Proof.Machine

/-! ## The phase of phi0 (R171) -/

theorem Phi0.phaseAt_add (p : Phi0) (j d : Nat) : p.phaseAt (j + d) = (p.phaseAt j + d) % p.period := by
  rw [Phi0.phaseAt, Phi0.phaseAt, Nat.mod_add_mod, Nat.add_assoc]

theorem Phi0.phaseAt_lt {p : Phi0} (h : p.ok) (k : Nat) : p.phaseAt k < p.period := by
  obtain ⟨-, -, hphase⟩ := h
  exact Nat.mod_lt _ (Nat.zero_lt_of_lt hphase)

/-- Counted back by no more than the phase, the phase is less by as much. -/
theorem Phi0.phaseAt_of_le {p : Phi0} (h : p.ok) {j d : Nat} (hd : d ≤ p.phaseAt (j + d)) :
    p.phaseAt j + d = p.phaseAt (j + d) := by
  have hj := Phi0.phaseAt_lt h j
  have hn := Phi0.phaseAt_lt h (j + d)
  have hdlt : d < p.period := hd.trans_lt hn
  rw [Phi0.phaseAt_add] at hd ⊢
  rcases Nat.lt_or_ge (p.phaseAt j + d) p.period with hlt | hge
  · rw [Nat.mod_eq_of_lt hlt]
  · rw [Nat.mod_eq_sub_mod hge, Nat.mod_eq_of_lt (by omega)] at hd
    omega

/-- The phase of FINE check `i`, which comes `i` ruler passes after the first: it moves on by the quantum `delta` each
time (R172). -/
theorem Phi0.phaseAt_check {p : Phi0} {j delta first ruler : Nat} (hphase : p.phase = (j + 1) % p.period)
    (hfirst : 1 ≤ first) (hruler : ruler = p.period + delta) (i : Nat) :
    p.phaseAt (first - 1 + i * ruler) = ((j + first) % p.period + i * delta) % p.period := by
  have hticks : j + 1 + (first - 1 + i * ruler) = j + first + i * delta + p.period * i := by
    rw [hruler, Nat.mul_add, Nat.mul_comm i p.period]
    omega
  rw [Phi0.phaseAt, hphase, Nat.mod_add_mod, hticks, Nat.add_mul_mod_self_left, Nat.mod_add_mod]

/-- A nominal phi0 is at the level of its phase. -/
theorem State.nominal_high {s : State} {p : Phi0} {n k : Nat} (h : s.nominal p n) (hk : k ≤ n) :
    (s.inputAt k).phi0 = true ↔ p.phaseAt k < p.high := by
  rw [h k hk, decide_eq_true_eq]

theorem State.nominal_low {s : State} {p : Phi0} {n k : Nat} (h : s.nominal p n) (hk : k ≤ n) :
    (s.inputAt k).phi0 = false ↔ p.high ≤ p.phaseAt k := by
  rw [h k hk, decide_eq_false_iff_not, Nat.not_lt]

/-! ## The coarse lock (R174) -/

section
variable {s t u : State} {k n : Nat}

/-- CHIGH follows C_POLL ticks after a poll that read LOW: CLOW's hit, or its own last miss. -/
theorem low_poll_before_chigh (hs : s.st = .clow) (hq : s.quiet k) (hu : Runs k s u) (hst : u.st = .chigh) :
    ∃ j < k, j + s.conf.cPoll = k + u.cnt ∧ (s.inputAt j).phi0 = false := by
  induction k generalizing u with
  | zero =>
    rw [runs_zero.mp hu, hs] at hst
    cases hst
  | succ k ih =>
    obtain ⟨v, hv, hstep⟩ := runs_snoc.mp hu
    have hconf : v.conf = s.conf := congrArg Subtype.val (runs_cfg hv)
    have hin : v.input = s.inputAt k := runs_inputAt hv 0
    obtain ⟨hpos, -⟩ := s.timing_pos
    have hlast : ∀ c, c + 1 = s.conf.cPoll → v.input.phi0 = false →
        ∃ j < k + 1, j + s.conf.cPoll = k + 1 + c ∧ (s.inputAt j).phi0 = false := fun c hc hlow =>
      ⟨k, k.lt_succ_self, by omega, hin ▸ hlow⟩
    obtain ⟨w, hm, rfl⟩ := move_of_step (quiet_drop hq hv 0 Nat.zero_lt_one).1 hstep
    rw [State.advance_st] at hst
    cases hm with
    | idles e | genWaits e => exact absurd (e.symm.trans hst) nofun
    | counts _ hc =>
      obtain ⟨j, hj, hticks, hlow⟩ := ih (quiet_le hq k.le_succ) hv hst
      refine ⟨j, Nat.lt_succ_of_lt hj, ?_, hlow⟩
      show j + s.conf.cPoll = k + 1 + (v.cnt - 1)
      omega
    | locks hp _ hh =>
      have hclow : v.st = .clow := by
        rcases FsmState.polling_cases hp with e | e | e
        · exact e
        all_goals rw [e] at hst; cases hst
      rw [hclow] at hh
      refine hlast (v.st.lockWait v.conf v.strat - 1) ?_ (by simpa [FsmState.hit] using hh)
      rw [hclow, hconf]
      exact Nat.sub_add_cancel hpos
    | pollsAgain _ _ hh =>
      have hchigh : v.st = .chigh := hst
      rw [hchigh] at hh
      refine hlast (v.st.missWait v.conf - 1) ?_ hh
      rw [hchigh, hconf]
      exact Nat.sub_add_cancel hpos
    | _ => cases hst

/-- The step from CHIGH to FINE is a poll that reads HIGH (R155). -/
theorem Move.high_poll_of_fine (h : Move s t) (hs : s.st = .chigh) (ht : t.st = .fine) :
    s.cnt = 0 ∧ s.input.phi0 = true := by
  cases h with
  | locks _ hc hh =>
    rw [hs] at hh
    exact ⟨hc, hh⟩
  | idles | counts | genWaits | pollsAgain => exact absurd (hs.symm.trans ht) nofun
  | _ => cases ht

end

/-- Settles O57: C_POLL ticks before the lock phi0 was LOW, so a rising edge lies between. -/
theorem coarseLockIsEarlyInTheHighPhase : Obligations.CoarseLockIsEarlyInTheHighPhase := by
  unfold Obligations.CoarseLockIsEarlyInTheHighPhase
  intro s t u p n hok hs _ hnom hq ht hst hu hut
  obtain ⟨v, hv, hstep⟩ := runs_snoc.mp hu
  obtain rfl := runs_unique ht hv
  obtain ⟨w, hm, rfl⟩ := move_of_step (quiet_drop hq ht 0 Nat.zero_lt_one).1 hstep
  obtain ⟨hc, hhigh⟩ := hm.high_poll_of_fine hst hut
  have hin : t.input = s.inputAt n := runs_inputAt ht 0
  have hlt : p.phaseAt n < p.high := (State.nominal_high hnom le_rfl).mp (hin ▸ hhigh)
  obtain ⟨j, hj, hticks, hlow⟩ := low_poll_before_chigh hs (quiet_le hq n.le_succ) ht hst
  rw [hc, Nat.add_zero] at hticks
  have hlowphase : p.high ≤ p.phaseAt j := (State.nominal_low hnom hj.le).mp hlow
  refine lt_min (Nat.lt_of_not_le fun hle => ?_) hlt
  rw [← hticks] at hle hlt
  have hback := Phi0.phaseAt_of_le hok hle
  omega

/-! ## The fine lock (R172) -/

/-- The first multiple of `b` from `a` on, rounded up. -/
theorem ceilDiv_spec {a b : Nat} (hb : 1 ≤ b) : a ≤ ceilDiv a b * b ∧ ceilDiv a b * b < a + b := by
  have hmod := Nat.mod_lt (a + b - 1) hb
  have hdiv := Nat.div_add_mod' (a + b - 1) b
  rw [ceilDiv]
  omega

theorem ceilDiv_mono {a a' b : Nat} (h : a ≤ a') : ceilDiv a b ≤ ceilDiv a' b :=
  Nat.div_le_div_right (by omega)

/-- A multiple of `b` before the rounded one is short of `a`. -/
theorem mul_lt_of_lt_ceilDiv {a b i : Nat} (hb : 1 ≤ b) (hi : i < ceilDiv a b) : i * b < a := by
  obtain ⟨-, hlt⟩ := ceilDiv_spec (a := a) hb
  have hle : (i + 1) * b ≤ ceilDiv a b * b := Nat.mul_le_mul_right b hi
  rw [Nat.succ_mul] at hle
  omega

section
variable {s : State} {k : Nat}

/-- From a FINE state: `k` checks that read HIGH and one that reads LOW, and the engine is in WAIT (R156). -/
theorem fine_locks_after (hs : s.st = .fine) (hmiss : ∀ i < k, s.missesPoll i)
    (hbudget : s.conf.pollUnbounded = true ∨ s.polls + k + 1 ≤ s.conf.pollBudget)
    (hlow : (s.inputAt (s.pollTick k)).phi0 = false) (hq : s.quiet (s.pollTick k + 1)) :
    (∀ n u, n < s.pollTick k + 1 → Runs n s u → u.st = .fine) ∧
    ∃ t, Runs (s.pollTick k + 1) s t ∧ t.st = .wait ∧ t.cnt = waitOf s.conf s.strat - 1 ∧
      (s.conf.pollUnbounded = false → t.polls = s.polls + k + 1) := by
  have hp : s.st.polling = true := by rw [hs]; rfl
  refine ⟨fun n u hn hu => ?_, ?_⟩
  · obtain ⟨i, v, -, hv⟩ := missing (n := n) hp (quiet_le hq hn.le) (Nat.lt_succ_iff.mp hn) fun i hi _ => hmiss i hi
    rw [runs_unique hu hv.run, hv.st, hs]
  · obtain ⟨u, hu, hc⟩ := missing_at_poll hp (quiet_le hq (Nat.le_succ _)) hmiss
    have hfine : u.st = .fine := hu.st.trans hs
    have hrun := runs_snoc.mpr ⟨u, hu.run, step_quiet (quiet_drop hq hu.run)⟩
    rw [State.fsmTick_lock (by rw [hfine]; rfl) hc (by rw [hfine, hu.input_eq hc, hlow]; rfl)] at hrun
    refine ⟨_, hrun, by simp [hfine, FsmState.afterLock], ?_, fun hub => ?_⟩
    · simp [hfine, FsmState.lockWait, hu.conf_eq, hu.held.strat]
    · have hle : u.polls + 1 ≤ u.conf.pollBudget := by
        rw [hu.polls hub, hu.conf_eq]
        exact hbudget.resolve_left (by simp [hub])
      calc u.clearValid.countPoll.polls = u.polls + 1 :=
            State.countPoll_polls_of_le (s := u.clearValid) (by rw [State.clearValid_conf, hu.conf_eq, hub]) hle
        _ = s.polls + k + 1 := by rw [hu.polls hub]

end

/-- Settles O58: the checks before `k` fall into the HIGH phase, and check `k` is the first past it. -/
theorem fineLockWithinOneQuantum : Obligations.FineLockWithinOneQuantum := by
  unfold Obligations.FineLockWithinOneQuantum
  intro s p j delta hok hs hc hj hphase hshort hlong p0 k hbudget hnom hq
  obtain ⟨hruler, hdelta, hdlow⟩ := hlong
  obtain ⟨-, hfirst, -⟩ := s.timing_pos
  obtain ⟨-, hperiod, -⟩ := hok
  have hp0 : p0 < p.high := hshort j hj
  obtain ⟨hge, hlt⟩ : p.high - p0 ≤ k * delta ∧ k * delta < p.high - p0 + delta := ceilDiv_spec hdelta
  have hcheck : ∀ i ≤ k, p.phaseAt (s.conf.tFirst - 1 + i * s.conf.tRuler) = p0 + i * delta := fun i hi => by
    rw [Phi0.phaseAt_check hphase hfirst hruler]
    have hle : i * delta ≤ k * delta := Nat.mul_le_mul_right delta hi
    simp only [Phi0.low] at hdlow
    exact Nat.mod_eq_of_lt (by omega)
  have htick : ∀ i, s.pollTick i = s.conf.tFirst - 1 + i * s.conf.tRuler := fun i => by
    rw [State.pollTick, hs, hc]
    rfl
  have hticks : s.conf.tFirst + k * s.conf.tRuler = s.pollTick k + 1 := by
    rw [htick]
    omega
  rw [← htick] at hnom
  have hmiss : ∀ i < k, s.missesPoll i := fun i hi => by
    refine ⟨?_, hbudget.imp_right fun h => by omega⟩
    have hhigh : (s.inputAt (s.pollTick i)).phi0 = true := by
      rw [State.nominal_high hnom (s.pollTick_le_pollTick_iff.mpr hi.le), htick, hcheck i hi.le]
      have hbefore := mul_lt_of_lt_ceilDiv hdelta hi
      omega
    rw [hs, hhigh]
    rfl
  have hlow : (s.inputAt (s.pollTick k)).phi0 = false := by
    rw [State.nominal_low hnom le_rfl, htick, hcheck k le_rfl]
    omega
  rw [hticks] at hq ⊢
  exact ⟨hp0, ceilDiv_mono (Nat.sub_le _ _), hcheck, by omega, by omega, fine_locks_after hs hmiss hbudget hlow hq⟩

end Sys2Proof.Machine
end

section
/-!
PROOFS. A synchronized cycle depends on its command, the configuration and its own inputs alone (O56): two cycles that
agree on these run in step (`InStep`), whatever else their states hold.
-/

namespace Sys2Proof.Machine

/-! ## Two cycles in step -/

/-- The two states agree on what a synchronized cycle goes by: its command, its counters and status, the bus registers
(the data register on a write), and the configuration but for T_DISPATCH. -/
structure Alike (s s' : State) : Prop where
  st : s.st = s'.st
  op : s.op = s'.op
  strat : s.strat = s'.strat
  cnt : s.cnt = s'.cnt
  polls : s.polls = s'.polls
  finStatus : s.finStatus = s'.finStatus
  addrR : s.addrR = s'.addrR
  dirR : s.dirR = s'.dirR
  rwR : s.rwR = s'.rwR
  phi2R : s.phi2R = s'.phi2R
  doutR : s.isWrite = true → s.doutR = s'.doutR
  conf : s.conf = { s'.conf with tDispatch := s.conf.tDispatch }

/-- The two cycles are at the same tick: in CLOW to FIN, with the same byte to report in FIN, or in IDLE with the same
response. -/
structure InStep (s s' : State) : Prop extends Alike s s' where
  stage : s.st.onBus = true ∨ s.st = .idle
  scratch : s.st = .fin → s.finStatus = .success → s.isWrite = false → s.scratch = s'.scratch
  response : s.st = .idle → s.rspValid = s'.rspValid ∧ s.rspWord = s'.rspWord

section
variable {s s' : State}

theorem Alike.isWrite (h : Alike s s') : s.isWrite = s'.isWrite := congrArg (·.getLsbD 0) h.op

/-- What does not read T_DISPATCH is the same for both configurations. -/
theorem Alike.conf_congr (h : Alike s s') {α : Type} (f : Config → α)
    (hf : ∀ (c : Config) (d : Nat), f { c with tDispatch := d } = f c) : f s.conf = f s'.conf :=
  (congrArg f h.conf).trans (hf _ _)

theorem Alike.pollUnbounded (h : Alike s s') : s.conf.pollUnbounded = s'.conf.pollUnbounded :=
  h.conf_congr Config.pollUnbounded fun _ _ => rfl

theorem Alike.pollBudget (h : Alike s s') : s.conf.pollBudget = s'.conf.pollBudget :=
  h.conf_congr Config.pollBudget fun _ _ => rfl

theorem Alike.lockWait (h : Alike s s') : s.st.lockWait s.conf s.strat = s'.st.lockWait s'.conf s'.strat := by
  rw [← h.st, ← h.strat]
  exact h.conf_congr (fun c => s.st.lockWait c s.strat) fun _ _ => by cases s.st <;> rfl

theorem Alike.missWait (h : Alike s s') : s.st.missWait s.conf = s'.st.missWait s'.conf := by
  rw [← h.st]
  exact h.conf_congr (fun c => s.st.missWait c) fun _ _ => by cases s.st <;> rfl

theorem Alike.countPoll_polls (h : Alike s s') : s.countPoll.polls = s'.countPoll.polls := by
  have hw : pollW s.conf = pollW s'.conf := h.conf_congr pollW fun _ _ => rfl
  rw [State.countPoll_polls, State.countPoll_polls, h.pollUnbounded, hw, h.polls]

theorem Alike.snapshot (h : Alike s s') (i : Input) :
    reassemble s.conf (portSample s.conf i) = reassemble s'.conf (portSample s'.conf i) :=
  h.conf_congr (fun c => reassemble c (portSample c i)) fun _ _ => rfl

/-- In the cycle, where nothing is reported yet, cycles that are alike are in step. -/
theorem Alike.inStep (h : Alike s s') (hbus : s.st.onBus = true) (hfin : s.st = .fin → s.finStatus ≠ .success) :
    InStep s s' :=
  { h with
    stage := .inl hbus
    scratch := fun hs hf => absurd hf (hfin hs)
    response := fun hs => by rw [hs] at hbus; cases hbus }

theorem InStep.advance (h : InStep s s') : InStep s.advance s'.advance := { h with }

theorem Alike.counts (h : Alike s s') : Alike s.clearValid.count s'.clearValid.count :=
  { h with cnt := congrArg (· - 1) h.cnt }

/-- The next tick of two cycles in CLOW, CHIGH or FINE (R154 to R156). -/
theorem Alike.fsmTick_polling (h : Alike s s') (hs : s.st.polling = true) (hin : s.input.phi0 = s'.input.phi0) :
    InStep s.fsmTick s'.fsmTick := by
  have hs' : s'.st.polling = true := h.st ▸ hs
  have hbus := FsmState.onBus_of_polling hs
  have hnofin : s.st ≠ .fin := by rintro e; rw [e] at hs; cases hs
  have hhit : s.st.hit s.input.phi0 = s'.st.hit s'.input.phi0 := by rw [h.st, hin]
  have hpolls : s.clearValid.countPoll.polls = s'.clearValid.countPoll.polls := h.countPoll_polls
  rcases State.fsmTick_polling_cases hs with ⟨hc, e⟩ | ⟨hc, hh, e⟩ | ⟨hc, hh, hu, hb, e⟩ | ⟨hc, hh, hb, e⟩ <;>
    rw [e] <;> rw [h.cnt] at hc
  · rw [State.fsmTick_counts hs' hc]
    exact h.counts.inStep hbus fun hfin => absurd hfin hnofin
  · rw [State.fsmTick_lock hs' hc (hhit ▸ hh)]
    refine Alike.inStep ?_ (FsmState.onBus_afterLock _) fun hfin => absurd hfin ?_
    · exact { h with
        st := congrArg FsmState.afterLock h.st
        cnt := congrArg (· - 1) h.lockWait
        polls := hpolls }
    · rcases FsmState.polling_cases hs with e | e | e <;> simp [e, FsmState.afterLock]
  · rw [State.fsmTick_abort hs' hc (hhit ▸ hh) (h.pollUnbounded ▸ hu) (h.polls ▸ h.pollBudget ▸ hb)]
    refine Alike.inStep ?_ rfl fun _ => nofun
    exact { h with st := rfl, polls := hpolls, finStatus := rfl }
  · rw [State.fsmTick_again hs' hc (hhit ▸ hh) (h.polls ▸ h.pollBudget ▸ h.pollUnbounded ▸ hb)]
    refine Alike.inStep ?_ hbus fun hfin => absurd hfin hnofin
    exact { h with cnt := congrArg (· - 1) h.missWait, polls := hpolls }

/-- The next tick of two cycles in WAIT (R158). -/
theorem Alike.fsmTick_wait (h : Alike s s') (hs : s.st = .wait) : InStep s.fsmTick s'.fsmTick := by
  rw [State.fsmTick_wait hs, State.fsmTick_wait (h.st ▸ hs)]
  rcases s.clearValid.waitTick_cases with ⟨hc, e⟩ | ⟨hc, e⟩ <;> rw [e, State.waitTick] <;>
    rw [State.clearValid_cnt, h.cnt] at hc
  · rw [State.whenDone_of_pos (s := s'.clearValid) _ hc]
    exact h.counts.inStep (by simp [hs, FsmState.onBus]) (by simp [hs])
  · rw [State.whenDone_of_zero (s := s'.clearValid) _ hc]
    refine Alike.inStep ?_ rfl nofun
    exact { h with st := rfl, phi2R := rfl, cnt := h.conf_congr (fun c => c.tHigh - 1) fun _ _ => rfl }

/-- The next tick of two cycles in HIGH (R159). -/
theorem Alike.fsmTick_high (h : Alike s s') (hs : s.st = .high) : InStep s.fsmTick s'.fsmTick := by
  rw [State.fsmTick_high hs, State.fsmTick_high (h.st ▸ hs)]
  rcases s.clearValid.highTick_cases with ⟨hc, e⟩ | ⟨hc, e⟩ <;> rw [e, State.highTick] <;>
    rw [State.clearValid_cnt, h.cnt] at hc
  · rw [State.whenDone_of_pos (s := s'.clearValid) _ hc]
    exact h.counts.inStep (by simp [hs, FsmState.onBus]) (by simp [hs])
  · rw [State.whenDone_of_zero (s := s'.clearValid) _ hc]
    refine Alike.inStep ?_ rfl nofun
    exact { h with st := rfl, phi2R := rfl, cnt := h.conf_congr (fun c => c.tSample) fun _ _ => rfl }

/-- The next tick of two cycles in SAMP: the byte of a read is that of the ports (R160). -/
theorem Alike.fsmTick_samp (h : Alike s s') (hs : s.st = .samp) (hin : s.input = s'.input) :
    InStep s.fsmTick s'.fsmTick := by
  rw [State.fsmTick_samp hs, State.fsmTick_samp (h.st ▸ hs)]
  rcases s.clearValid.sampTick_cases s.isWrite with ⟨hc, e⟩ | ⟨hc, e⟩ <;> rw [e, State.sampTick] <;>
    rw [State.clearValid_cnt, h.cnt] at hc
  · rw [State.whenDone_of_pos (s := s'.clearValid) _ hc]
    exact h.counts.inStep (by simp [hs, FsmState.onBus]) (by simp [hs])
  · rw [State.whenDone_of_zero (s := s'.clearValid) _ hc]
    refine { h with st := rfl, stage := .inl rfl, scratch := fun _ _ hread => ?_, response := nofun }
    have hread : s.isWrite = false := hread
    show (if s.isWrite then s.scratch else reassemble s.conf (portSample s.conf s.input)) =
      if s'.isWrite then s'.scratch else reassemble s'.conf (portSample s'.conf s'.input)
    rw [← h.isWrite, hread, ← hin]
    exact h.snapshot s.input

/-- The next tick of two cycles in FIN: they respond alike (R162). -/
theorem InStep.fsmTick_fin (h : InStep s s') (hs : s.st = .fin) : InStep s.fsmTick s'.fsmTick := by
  have hfinish : ∀ v rd, InStep (State.finish v rd .default .default { s.clearValid with rwR := true })
      (State.finish v rd .default .default { s'.clearValid with rwR := true }) := fun v rd =>
    { h with st := rfl, rwR := rfl, stage := .inr rfl, scratch := nofun, response := fun _ => ⟨rfl, rfl⟩ }
  rw [State.fsmTick_fin hs, State.fsmTick_fin (h.st ▸ hs)]
  by_cases hf : s.finStatus = .success
  · rw [State.finTick_success (s := s.clearValid) hf, State.finTick_success (s := s'.clearValid) (h.finStatus ▸ hf)]
    have hdata : (if s.isWrite then none else some s.scratch) = if s'.isWrite then none else some s'.scratch := by
      rw [← h.isWrite]
      cases hw : s.isWrite with
      | true => rfl
      | false => rw [h.scratch hs hf hw]
    rw [State.clearValid_scratch, State.clearValid_scratch, hdata]
    exact hfinish _ _
  · rw [State.finTick_failure (s := s.clearValid) hf, State.finTick_failure (s := s'.clearValid) (h.finStatus ▸ hf)]
    exact hfinish _ _

/-- Two cycles in step that see the same sample are in step after the tick. -/
theorem InStep.fsmTick (h : InStep s s') (hs : s.st ≠ .idle) (hin : s.input = s'.input) :
    InStep s.fsmTick s'.fsmTick := by
  have hbus := h.stage.resolve_right hs
  cases e : s.st with
  | clow | chigh | fine => exact h.fsmTick_polling (by rw [e]; rfl) (congrArg Input.phi0 hin)
  | wait => exact h.fsmTick_wait e
  | high => exact h.fsmTick_high e
  | samp => exact h.fsmTick_samp e hin
  | fin => exact h.fsmTick_fin e
  | idle | dispatch | gen | setup => rw [e] at hbus; cases hbus

/-- SETUP writes all that the cycle goes by (R151, R152, R170). -/
theorem inStep_of_setup (hs : s.st = .setup) (hs' : s'.st = .setup) (hop : s.op = s'.op) (haddr : s.addr = s'.addr)
    (hwdata : s.wdata = s'.wdata) (hstrat : s.strat = s'.strat)
    (hconf : s.conf = { s'.conf with tDispatch := s.conf.tDispatch }) (hphi : s.phi2R = s'.phi2R) :
    InStep s.fsmTick s'.fsmTick := by
  have hw : s.isWrite = s'.isWrite := congrArg (·.getLsbD 0) hop
  rw [State.fsmTick_setup hs, State.fsmTick_setup hs', ← hw]
  refine Alike.inStep ?_ rfl nofun
  exact
    { st := rfl
      op := hop
      strat := hstrat
      cnt := rfl
      polls := rfl
      finStatus := rfl
      addrR := haddr
      dirR := rfl
      rwR := rfl
      phi2R := hphi
      doutR := fun hwrite => by
        have hwrite : s.isWrite = true := hwrite
        simpa [hwrite] using hwdata
      conf := hconf }

end

/-- A step without reset is the FSM's tick. -/
theorem eq_fsmTick_of_step {s t : State} (hr : s.input.rstN = true) (h : step s = .next t) : t = s.fsmTick.advance := by
  rw [eq_fsmStep_of_step h, State.fsmStep, if_pos hr]

/-- A busy engine keeps the latched OP. -/
theorem op_of_runs {s t : State} {n : Nat} (hr : ∀ k < n, (s.inputAt k).rstN = true)
    (hbusy : ∀ k u, k < n → Runs k s u → u.st ≠ .idle) (ht : Runs n s t) : t.op = s.op := by
  induction n generalizing t with
  | zero => rw [runs_zero.mp ht]
  | succ n ih =>
    obtain ⟨u, hu, hstep⟩ := runs_snoc.mp ht
    have hin : u.input = s.inputAt n := runs_inputAt hu 0
    obtain ⟨v, hm, rfl⟩ := move_of_step (hin ▸ hr n n.lt_succ_self) hstep
    obtain ⟨hop, -⟩ := hm.latch_eq (hbusy n u n.lt_succ_self hu)
    exact hop.trans (ih (fun k hk => hr k (Nat.lt_succ_of_lt hk)) (fun k v hk => hbusy k v (Nat.lt_succ_of_lt hk)) hu)

/-- From SETUP on, two cycles of the same command, configuration and inputs are in step until they end. -/
theorem inStep_of_runs {s s' t t' : State} {n : Nat} (hfirst : InStep s.fsmTick s'.fsmTick)
    (hin : ∀ k, 1 ≤ k → k < n + 1 → s.inputAt k = s'.inputAt k)
    (hr : ∀ k < n + 1, (s.inputAt k).rstN = true ∧ (s'.inputAt k).rstN = true)
    (hbusy : ∀ k u, k < n + 1 → Runs k s u → u.st ≠ .idle) (ht : Runs (n + 1) s t) (ht' : Runs (n + 1) s' t') :
    InStep t t' := by
  induction n generalizing t t' with
  | zero =>
    obtain ⟨hreset, hreset'⟩ := hr 0 Nat.zero_lt_one
    rw [eq_fsmTick_of_step hreset (runs_one.mp ht), eq_fsmTick_of_step hreset' (runs_one.mp ht')]
    exact hfirst.advance
  | succ n ih =>
    obtain ⟨u, hu, hstep⟩ := runs_snoc.mp ht
    obtain ⟨u', hu', hstep'⟩ := runs_snoc.mp ht'
    have hlast : u.input = s.inputAt (n + 1) := runs_inputAt hu 0
    have hlast' : u'.input = s'.inputAt (n + 1) := runs_inputAt hu' 0
    obtain ⟨hreset, hreset'⟩ := hr (n + 1) (Nat.lt_succ_self _)
    have hinstep : InStep u u' := ih (fun k hpos hk => hin k hpos (Nat.lt_succ_of_lt hk))
      (fun k hk => hr k (Nat.lt_succ_of_lt hk)) (fun k v hk => hbusy k v (Nat.lt_succ_of_lt hk)) hu hu'
    rw [eq_fsmTick_of_step (hlast ▸ hreset) hstep, eq_fsmTick_of_step (hlast' ▸ hreset') hstep']
    refine (hinstep.fsmTick (hbusy _ u (Nat.lt_succ_self _) hu) ?_).advance
    rw [hlast, hlast', hin (n + 1) (Nat.le_add_left 1 n) (Nat.lt_succ_self _)]

/-- Settles O56: SETUP brings the two cycles in step, and they stay so. -/
theorem noDependenceOnWhatCameBefore : Obligations.NoDependenceOnWhatCameBefore := by
  unfold Obligations.NoDependenceOnWhatCameBefore
  intro s s' t t' n hs hs' hop haddr hwdata hstrat hconf hphi hphi' hin hr hn ht ht' hbusy
  obtain ⟨m, rfl⟩ := Nat.exists_eq_add_of_le' hn
  have hfirst := inStep_of_setup hs hs' hop haddr hwdata hstrat hconf (hphi.trans hphi'.symm)
  have h : InStep t t' := inStep_of_runs hfirst hin hr hbusy ht ht'
  have hwrite : t.isWrite = s.isWrite := congrArg (·.getLsbD 0) (op_of_runs (fun k hk => (hr k hk).1) hbusy ht)
  exact ⟨h.st, h.cnt, h.polls, h.finStatus, h.addrR, h.dirR, h.rwR, h.phi2R, fun hw => h.doutR (hwrite.trans hw),
    h.response⟩

end Sys2Proof.Machine
end

section
/-!
PROOFS. Acceptance and dispatch: RD and WR as the strategy row they select (O23), the DISPATCH tick of every instruction
(O20, O22), the IDLE tick (O19), and the response registers between two responses (O30).
-/

namespace Sys2Proof.Machine

/-! ## RD and WR, state by state -/

section
variable {s : State} {i j : Instr} {w : Bool} {k : Strat}

/-- RD and WR share one meaning, up to the direction and what IDLE latches (R97). -/
theorem exec_access (hi : accessRow i = some w) : ∃ o a d, exec i = accessTick o w a d := by
  cases i with
  | rd a d => cases hi; exact ⟨_, _, _, rfl⟩
  | wr a d => cases hi; exact ⟨_, _, _, rfl⟩
  | _ => cases hi

theorem exec_access_dispatch (hi : accessRow i = some w) (hs : s.st = .dispatch) :
    exec i s = .next (s.clearValid.dispatchAccess w) := by
  obtain ⟨o, a, d, e⟩ := exec_access hi
  rw [e, accessTick_dispatch hs]

theorem exec_access_gen (hi : accessRow i = some w) (hs : s.st = .gen) :
    exec i s = .next (s.clearValid.genTick w) := by
  obtain ⟨o, a, d, e⟩ := exec_access hi
  rw [e, accessTick_gen hs]

theorem exec_access_sync (hi : accessRow i = some w) (hs : s.st = .setup ∨ s.st.onBus = true) :
    exec i s = orNotAtThisTick (s.clearValid.syncTick w s.strat) := by
  obtain ⟨o, a, d, e⟩ := exec_access hi
  rw [e, accessTick_sync hs]

/-! ## An access is the row it selects (R205, R212, R213) -/

/-- The DISPATCH tick of an access routes by its selected strategy, as the row of that strategy does. -/
theorem State.dispatchAccess_of_selected (hk : s.selected w = k) :
    s.clearValid.dispatchAccess w = s.clearValid.whenDone (State.route k) :=
  State.whenDone_congr (congrArg (State.route · s.clearValid) hk)

theorem exec_access_eq_generic_of_dispatch (hi : accessRow i = some w) (hj : genericRow j = some w)
    (hs : s.st = .dispatch) (hk : s.selected w = .default) : exec i s = exec j s := by
  rw [exec_access_dispatch hi hs, State.dispatchAccess_of_selected hk, exec_generic hj, genericCycle_dispatch hs]

theorem exec_access_eq_sync_of_dispatch (hi : accessRow i = some w) (hj : syncRow j = some (w, k))
    (hs : s.st = .dispatch) (hk : s.selected w = k) : exec i s = exec j s := by
  rw [exec_access_dispatch hi hs, State.dispatchAccess_of_selected hk, exec_sync hj, syncCycle_dispatch hs]

theorem exec_access_eq_generic_of_gen (hi : accessRow i = some w) (hj : genericRow j = some w) (hs : s.st = .gen) :
    exec i s = exec j s := by
  rw [exec_access_gen hi hs, exec_generic hj, genericCycle_gen hs]

theorem exec_access_eq_sync (hi : accessRow i = some w) (hj : syncRow j = some (w, k))
    (hs : s.st = .setup ∨ s.st.onBus = true) (hk : s.strat = k) : exec i s = exec j s := by
  rw [exec_access_sync hi hs, exec_sync hj, syncCycle_sync hs, hk]

/-- No tick of an access in SETUP to FIN is refused. -/
theorem exec_access_sync_next (hi : accessRow i = some w) (hs : s.st = .setup ∨ s.st.onBus = true) :
    ∃ t, exec i s = .next t := by
  obtain ⟨t, ht⟩ := Option.isSome_iff_exists.mp ((s.clearValid.syncTick_isSome w s.strat).mpr hs)
  exact ⟨t, by rw [exec_access_sync hi hs, ht]; rfl⟩

end

/-- Settles O23: in each state the tick of an access and the tick of the row it selects are one operation. -/
theorem commandsRunTheirCycle : Obligations.CommandsRunTheirCycle := by
  unfold Obligations.CommandsRunTheirCycle
  intro s a d b l x
  have hrd : accessRow (.rd a d) = some false := rfl
  have hwr : accessRow (.wr a d) = some true := rfl
  refine ⟨fun hs => ?dispatch, fun hs => ?gen, fun hs hk => ?syncPhi0, fun hs hk => ?syncPhi0Skip, fun hs => ?next⟩
  case dispatch =>
    exact ⟨exec_access_eq_generic_of_dispatch hrd rfl hs, exec_access_eq_sync_of_dispatch hrd rfl hs,
      exec_access_eq_sync_of_dispatch hrd rfl hs, exec_access_eq_generic_of_dispatch hwr rfl hs,
      exec_access_eq_sync_of_dispatch hwr rfl hs, exec_access_eq_sync_of_dispatch hwr rfl hs⟩
  case gen =>
    exact ⟨exec_access_eq_generic_of_gen hrd rfl hs, exec_access_eq_generic_of_gen hwr rfl hs,
      ⟨_, exec_access_gen hrd hs⟩, ⟨_, exec_access_gen hwr hs⟩⟩
  case syncPhi0 | syncPhi0Skip => exact ⟨exec_access_eq_sync hrd rfl hs hk, exec_access_eq_sync hwr rfl hs hk⟩
  case next => exact ⟨exec_access_sync_next hrd hs, exec_access_sync_next hwr hs⟩

/-! ## DISPATCH (R201) -/

/-- In DISPATCH every instruction waits for the counter; they differ in what they do at its end. -/
theorem exec_dispatch_waits {s : State} (hs : s.st = .dispatch) (i : Instr) :
    ∃ act, exec i s = .next (s.clearValid.whenDone act) := by
  cases i with
  | rd a d => exact ⟨_, exec_access_dispatch (w := false) rfl hs⟩
  | wr a d => exact ⟨_, exec_access_dispatch (w := true) rfl hs⟩
  | lk a d => exact ⟨_, execLk_dispatch hs a d⟩
  | rsDefault | wsDefault => exact ⟨_, (exec_generic rfl s).trans (genericCycle_dispatch hs _)⟩
  | rsSyncPhi0 | rsSyncPhi0Skip | wsSyncPhi0 | wsSyncPhi0Skip =>
    exact ⟨_, (exec_sync rfl s).trans (syncCycle_dispatch hs _ _)⟩

/-- Settles O20: what waits for the counter counts while it runs. -/
theorem dispatchCountsDown : Obligations.DispatchCountsDown := by
  unfold Obligations.DispatchCountsDown
  intro s i hs hc
  obtain ⟨act, e⟩ := exec_dispatch_waits hs i
  rw [e, State.whenDone_of_pos (s := s.clearValid) act hc]
  rfl

/-- The last DISPATCH tick of an access is its routing. -/
theorem exec_access_routes {s : State} {i : Instr} {w : Bool} (hi : accessRow i = some w) (hs : s.st = .dispatch)
    (hc : s.cnt = 0) : exec i s = .next (s.clearValid.route (s.selected w)) := by
  rw [exec_access_dispatch hi hs, State.dispatchAccess_of_selected rfl,
    State.whenDone_of_zero (s := s.clearValid) _ hc]

/-- Settles O22: the routes of R202, taken with the strategy that the direction of the access selects. -/
theorem rdAndWrRouteByTheSelectedStrategy : Obligations.RdAndWrRouteByTheSelectedStrategy := by
  unfold Obligations.RdAndWrRouteByTheSelectedStrategy
  intro s a d i w hi hs hc k refusedByMux
  have hrow : accessRow i = some w := by rcases hi with ⟨rfl, rfl⟩ | ⟨rfl, rfl⟩ <;> rfl
  have hexec : exec i s = .next (s.clearValid.route k) := exec_access_routes hrow hs hc
  have hrefused : k = .reserved ∨ (k ≠ .default ∧ s.conf.syncSupported = false) →
      exec i s = .next refusedByMux := fun h =>
    hexec.trans (congrArg _ (State.route_turned_away (s := s.clearValid) h))
  refine ⟨fun hk => ?_, fun hk hsupp => ?_, fun hk hsupp => ?_, fun hk => hrefused (.inl hk)⟩
  · rw [hexec, hk, State.route_default]
    rfl
  · rw [hexec, State.route_sync (s := s.clearValid) hk hsupp]
    rfl
  · exact hrefused (.inr ⟨by rcases hk with e | e <;> simp [e], hsupp⟩)

/-! ## IDLE (R200) -/

/-- Settles O19: the two ticks of IDLE, after which the stream moves on. -/
theorem idleAcceptsAndLatches : Obligations.IdleAcceptsAndLatches := by
  unfold Obligations.IdleAcceptsAndLatches
  intro s hs hr hd
  have hstep : step s = .next s.fsmTick.advance := step_eq_fsmTick hr (dutyBroken_of_silent hd)
  refine ⟨fun hv => ?_, fun hv => ?_⟩
  · rw [hstep, State.fsmTick_idle_accept hs hv, a16_cmdAddrIn]
    rfl
  · rw [hstep, State.fsmTick_idle_nothing hs hv]
    rfl

/-! ## The response registers (R215) -/

/-- A tick that does not respond keeps the last response. -/
theorem Move.response_eq {s t : State} (h : Move s t) (hv : t.rspValid = false) :
    t.rspStatus = s.rspStatus ∧ t.rspRdv = s.rspRdv ∧ t.rspRdata = s.rspRdata ∧ t.rspRs = s.rspRs ∧
      t.rspWs = s.rspWs := by
  cases h with
  | refuses | reports | turnsAway | genEnds | succeeds | fails => cases hv
  | _ => exact ⟨rfl, rfl, rfl, rfl, rfl⟩

/-- A response comes from a busy engine, and leaves it in IDLE (R214). -/
theorem Move.responds {s t : State} (h : Move s t) (hv : t.rspValid = true) : t.st = .idle ∧ s.st ≠ .idle := by
  have hbusy : s.st ≠ .idle := fun hs => absurd (hv.symm.trans (h.rspValid_of_idle hs)) nofun
  exact ⟨(h.idle_iff_responds hbusy).mpr hv, hbusy⟩

/-- No step from IDLE responds, a reset there included. -/
theorem rspValid_of_step_idle {s t : State} (hs : s.st = .idle) (h : step s = .next t) : t.rspValid = false := by
  cases hr : s.input.rstN with
  | false => rw [eq_resetTick_of_step hr h]; rfl
  | true =>
    obtain ⟨u, hm, rfl⟩ := move_of_step hr h
    exact hm.rspValid_of_idle hs

/-- An accepted command is in DISPATCH at the next tick (R45, R200). -/
theorem st_of_step_accepts {s t : State} (ha : s.accepts = true) (h : step s = .next t) : t.st = .dispatch := by
  obtain ⟨hv, hready⟩ := Bool.and_eq_true_iff.mp ha
  obtain ⟨hs, hr⟩ := s.cmdReady_iff.mp hready
  rw [eq_fsmTick_of_step hr h, State.fsmTick_idle_accept hs hv]
  rfl

/-- Settles O30: IDLE never responds, and only a response writes the response registers. -/
theorem responseHeldUntilTheNext : Obligations.ResponseHeldUntilTheNext := by
  unfold Obligations.ResponseHeldUntilTheNext
  intro s t hinv h
  refine ⟨fun hv => ?shown, fun hv => ?responds, fun hr hv => ?held⟩
  case shown =>
    have hs := hinv.validIdle hv
    exact ⟨hs, rspValid_of_step_idle hs h, fun ha => st_of_step_accepts ha h⟩
  case responds =>
    cases hr : s.input.rstN with
    | false => rw [eq_resetTick_of_step hr h] at hv; cases hv
    | true =>
      obtain ⟨u, hm, rfl⟩ := move_of_step hr h
      exact hm.responds hv
  case held =>
    obtain ⟨u, hm, rfl⟩ := move_of_step hr h
    exact hm.response_eq hv

end Sys2Proof.Machine
end

section
/-!
PROOFS. The RESET step (O11): it replaces every state's step, reads RST_N alone, and leaves the values of R61.
-/

namespace Sys2Proof.Machine

/-! ## RESET (R250) -/

/-- No command is accepted at a reset tick, not even in IDLE (R45). -/
theorem State.cmdReady_of_reset {s : State} (h : s.input.rstN = false) : s.cmdReady = false :=
  Bool.eq_false_iff.mpr fun hready => absurd (h.symm.trans (s.cmdReady_iff.mp hready).2) nofun

/-- Of two samples with RST_N = 0 nothing else is read (R250). -/
theorem step_withInput_of_reset (s : State) {i j : Input} (hi : i.rstN = false) (hj : j.rstN = false) :
    step (s.withInput i) = step (s.withInput j) :=
  step_withInput (hi.trans hj.symm) fun hr => absurd (hj.symm.trans hr) nofun

/-- Settles O11: the step is RESET, whose registers, configuration and stream are read off `State.resetTick`. -/
theorem resetStepSetsEveryRegister : Obligations.ResetStepSetsEveryRegister := by
  unfold Obligations.ResetStepSetsEveryRegister
  intro s hr
  refine ⟨State.cmdReady_of_reset hr, fun i j hi hj => step_withInput_of_reset s hi hj,
    s.resetTick.advance, step_reset hr, ?_⟩
  simp

end Sys2Proof.Machine
end
